-- ==== Sys2Proof/Word.lean ====
section
/-! DEFINITION. The word types of the IG40 and the index types of its fixed-size tables. -/

namespace Sys2Proof

/-- One byte of a host frame or a field frame (R186). -/
abbrev Byte := BitVec 8

/-- A value of time base S (ms) or of time base F (100 ns): both are 32-bit counts (R160, R167). -/
abbrev Time := BitVec 32

/-- A record slot, 0 to 63 (section 1.1). -/
abbrev SlotIx := Fin 64

/-- A hardwired line, 0 to 63 (section 9.3). -/
abbrev LineIx := Fin 64

/-- An under-frequency stage: index `k` stands for stage `k + 1` (section 3.4). -/
abbrev StageIx := Fin 4

/-- A Station Directory index, 0 to 31 (section 8.1). -/
abbrev DirIx := Fin 32

/-- A plan position, 0 to 31 (section 7.1). -/
abbrev PosIx := Fin 32

/-- A notice kind by its place in the table of section 10.4: index `k` is code `k + 1`. -/
abbrev NoticeIx := Fin 22

end Sys2Proof
end

