-- ==== Sys2Proof/Config.lean ====
section
/-! DEFINITION. The constants the manual fixes for every IG40, and the values it leaves open. -/

namespace Sys2Proof.Config

/-- Counts of time base F (100 ns) in one millisecond of time base S (R160, R167). -/
def countsPerMs : Nat := 10000

/-- Counts of time base F in one microsecond (R44). -/
def countsPerUs : Nat := 10

/-- The shortest span of four periods that is not a glitch: 70 000 mHz (R44). -/
def minSpan : Nat := 571429

/-- The span of four periods above which the frequency reads 40 000 mHz (R45). -/
def maxSpan : Nat := 1000000

/-- The numerator of the frequency quotient of R45. -/
def freqScale : Nat := 40000000000

/-- The cap of GENSET records (section 1.1). -/
def gensetCap : Nat := 8

/-- The cap of PV records (section 1.1). -/
def pvCap : Nat := 24

/-- The cap of FEEDER records (section 1.1). -/
def feederCap : Nat := 32

/-- The longest time the write of a settings image takes, in ms (R182). -/
def saveLimitMs : Nat := 400

/-- A byte of a response body that the manual places in the layout and gives no value for (an
absent time, the fields of an empty directory index). It is a free value: applied to the count of
responses made so far and to the place of the byte. See assumption log 5. -/
opaque freeByte : Nat → Nat → Byte

/-- The length in bytes of this part's settings image. R184 compares with it and does not state
it. See assumption log 6. -/
opaque imageLength : Nat

end Sys2Proof.Config
end

