-- ==== Sys2Proof/Syntax.lean ====
section
/-! DEFINITION. The commands of the IG40: one constructor per row of spec/opcode_table.json. -/

namespace Sys2Proof

/-- A handle names a record by slot and generation, written slot/generation (section 4.2, R3). In a
host frame it is the 16-bit value slot plus 64 times generation, and 0 marks a handle absent (R186). -/
structure Handle where
  slot : Nat
  gen : Nat
deriving DecidableEq, Repr

/-- The steps of the part, each whole and indivisible. Operands of a host request are the numbers of
its request body (R186), before any check of its owner; operands of the other steps say which genset,
feeder, stage or line the step concerns, or carry what comes in from outside (the bytes of a frame, a
pin's level and `after`, the counts of 100 ns that pass before the change: assumption log 3). What one
block hands another waits in the state, so a taking step carries no operand for it (assumption log 2). -/
inductive Instr where
  /-- POWER_ON_RESET (R184). Supply is applied: every block takes its reset state and the settings image is loaded and checked. -/
  | powerOnReset
  /-- RESET_INPUT_ASSERTED (R185). The RESET input is asserted: the part is held in reset and any open SPI transaction is abandoned. -/
  | resetInputAsserted
  /-- RESET_INPUT_RELEASED (R185). The RESET input is released: the warm reset proceeds and every block takes its warm-reset state. -/
  | resetInputReleased
  /-- SPI_TRANSACTION (R175). One SPI transaction shifts out the pending response, or the NOP response, and takes in one incoming frame. -/
  | spiTransaction (clocked : List Byte)
  /-- NOP (R175). The NOP request is answered OK with no body. -/
  | nop
  /-- REGISTER (R8). Checks a new record and creates it in the lowest FREE slot, answering with its handle. -/
  | register (kind : Nat) (fields : List (Nat × Nat))
  /-- AMEND (R15). Checks field changes to a record as a whole and applies them together. -/
  | amend (h : Handle) (fields : List (Nat × Nat))
  /-- QUERY (R19). Returns the whole record named by a handle. -/
  | query (h : Handle)
  /-- LOOKUP_TAG (R5). Returns the handle, kind and lifecycle of the record holding a tag, or marks the record absent. -/
  | lookupTag (tag : Nat)
  /-- LIST (R20). Returns up to 16 non-FREE slots from a start slot, optionally limited to one kind. -/
  | list (first kind : Nat)
  /-- RETIRE (R21). Frees a record at once or moves it to RETIRING, according to the retire rule of its kind. -/
  | retire (h : Handle)
  /-- STATION_ADD (R144). Adds a station entry at the lowest free directory index. -/
  | stationAdd (address cls units access allowance gap : Nat)
  /-- STATION_AMEND (R145). Changes the configuration fields of a station when the records bound to it still pass their binding checks. -/
  | stationAmend (address : Nat) (changes : List (Nat × Nat))
  /-- STATION_DROP (R146). Removes a station entry that no record binds. -/
  | stationDrop (address : Nat)
  /-- STATION_QUERY (R147). Returns a station entry, found by address or by index. -/
  | stationQuery (address index : Nat)
  /-- LINE_CONFIGURE (R163). Sets the function, polarity and filter time of a line that serves no role, with immediate effect. -/
  | lineConfigure (line function polarity : Nat) (filter : Option Nat)
  /-- LINE_QUERY (R174). Returns the configuration, role, levels and pulse or window activity of a line. -/
  | lineQuery (line : Nat)
  /-- SET_PARAMETER (R178). Writes a parameter by identifier after its owner has checked the value. -/
  | setParameter (identifier : Nat) (value : Int)
  /-- GET_PARAMETER (R178). Returns the value of a parameter that is in force. -/
  | getParameter (identifier : Nat)
  /-- GRID_STATUS (R42). Returns the grid state, the last results, the frequency, the stage flags, LIVE and the permit holder. -/
  | gridStatus
  /-- START (R93). Host start of a genset, checked and then taken as a start order. -/
  | start (h : Handle)
  /-- STOP (R94). Host stop of a genset: unloads it from ONLINE or abandons a start. -/
  | stop (h : Handle)
  /-- CLEAR_LOCKOUT (R95). Takes a genset out of LOCKOUT to STOPPED with attempts used 0. -/
  | clearLockout (h : Handle)
  /-- HOLD_ADD (R116). Raises the hold count of each feeder in a slot mask and removes it from the armed sets and the batch. -/
  | holdAdd (mask : BitVec 64)
  /-- HOLD_DROP (R117). Lowers the hold count of each feeder in a slot mask. -/
  | holdDrop (mask : BitVec 64)
  /-- TRIP (R120). Host trip of a feeder with cause HOST, whatever its hold count. -/
  | trip (h : Handle)
  /-- RECLOSE (R121). Host reclose of a TRIPPED feeder that has a close line. -/
  | reclose (h : Handle)
  /-- CLEAR_FAULT (R122). Derives anew, from the status line, the state of a feeder in BREAKER_FAIL. -/
  | clearFault (h : Handle)
  /-- PLAN_WRITE_STEP (R126). Writes or empties one plan position after its checks. -/
  | planWriteStep (position kind : Nat) (target : Option Handle) (value timeout onFailure : Nat)
  /-- PLAN_SET (R127). Sets the plan length and the auto-run flag. -/
  | planSet (length autoRun : Nat)
  /-- PLAN_RUN (R130). Starts the plan in DARK once the plan check passes. -/
  | planRun
  /-- PLAN_ABORT (R142). Ends a RUNNING or PAUSED plan FAILED and removes every plan cap. -/
  | planAbort
  /-- PLAN_QUERY (R128). Returns the plan header and up to 16 positions. -/
  | planQuery (first : Nat)
  /-- READ_NOTICES (R181). Returns every pending notice and empties the pending set. -/
  | readNotices
  /-- SET_NOTICE_LEVELS (R180). Sets the levels of the notice kinds it names, all together. -/
  | setNoticeLevels (levels : List (Nat × Nat))
  /-- SAVE (R182). Takes a snapshot of the configuration and begins writing it into the spare image area. -/
  | save
  /-- SAVE_WRITE_COMPLETE (R182). The image write completes, the new area becomes the one the next reset loads, and SAVE_DONE is raised. -/
  | saveWriteComplete
  /-- RESTART (R185). The host request that puts the part into a warm reset. -/
  | restart
  /-- EVAL_PERIOD_EXPIRY (R59). The periodic evaluation deadline expires and BLU evaluates when the grid state allows it. -/
  | evalPeriodExpiry
  /-- REEVALUATION_REQUEST (R60). BLU takes the pending re-evaluation request and evaluates once when the grid state allows it. -/
  | reevaluationRequest
  /-- STOP_DELAY_EXPIRY (R76). The stop delay expires and BLU gives a stop order for the candidate once its checks pass. -/
  | stopDelayExpiry
  /-- START_DEMAND_HANDOVER (R92). GSQ takes an effective start demand and runs start selection. -/
  | startDemandHandover
  /-- SHU_EVALUATION_HANDOVER (R110). SHU takes the evaluation results: reserve shedding, then armed-set recomputation, then the reclose test. -/
  | shuEvaluationHandover
  /-- RSQ_EVALUATION_HANDOVER (R136). RSQ takes H and the plan-cap results and tests the conditions of the CLOSE_FEEDER, GATE_RESERVE and RELEASE_PV steps. -/
  | rsqEvaluationHandover
  /-- POLL_CYCLE_EXPIRY (R155). The poll cycle expires: the ageing pass runs, the cycle count advances and stations are marked due. -/
  | pollCycleExpiry
  /-- CRANK_TIME_EXPIRY (R82). A cranking genset has not come ready and goes to RESTING or LOCKOUT. -/
  | crankTimeExpiry (slot : SlotIx)
  /-- CRANK_REST_EXPIRY (R83). A resting genset re-enters CRANKING. -/
  | crankRestExpiry (slot : SlotIx)
  /-- WARM_TIME_EXPIRY (R83). A genset in RUN_UP enters SYNCING. -/
  | warmTimeExpiry (slot : SlotIx)
  /-- SYNC_TIME_EXPIRY (R84). A genset that has not closed its breaker goes to LOCKOUT, to RESTING, or to STOPPED on the crank wait list. -/
  | syncTimeExpiry (slot : SlotIx)
  /-- UNLOAD_TIME_EXPIRY (R89). The unload completes and the genset enters COOLDOWN. -/
  | unloadTimeExpiry (slot : SlotIx)
  /-- COOL_TIME_EXPIRY (R90). GSQ checks the breaker of a cooling genset and enters STOPPED, or raises BREAKER. -/
  | coolTimeExpiry (slot : SlotIx)
  /-- UF_STAGE_DELAY_EXPIRY (R48). A stage delay expires and the stage is raised. -/
  | ufStageDelayExpiry (stage : StageIx)
  /-- GRID_STAGE_RAISE (R31). BLU takes a stage raise and moves NORMAL or SHORT to EMERGENCY at once. -/
  | gridStageRaise
  /-- ARMED_SET_FIRING (R112). SHU takes a stage raise and, when the grid state allows UF firing, pulses the members of the stage's armed set. -/
  | armedSetFiring
  /-- PLAN_PAUSE (R140). RSQ takes a stage raise into its stage view and pauses a running plan. -/
  | planPause
  /-- RSQ_STAGE_CLEAR (R141). RSQ takes a stage clear and, once the stage view is empty while PAUSED, sets the resume wait. -/
  | rsqStageClear
  /-- DARK_TIMER_EXPIRY (R52). No edge has come for DARK_TIME: the history is emptied and the bus is declared dark or a zero-cross loss is declared. -/
  | darkTimerExpiry
  /-- LIVE_HOLD_EXPIRY (R57). The frequency is tested against the live band; LIVE is declared, or the hold is restarted. -/
  | liveHoldExpiry
  /-- ENTER_DARK (R32). BLU takes a dark declaration: the grid enters DARK, the results are cleared and PV setpoints are set to 0. -/
  | enterDark
  /-- SHU_GRID_STATE_CHANGE (R34). SHU takes a grid-state announcement: it cancels reclose on leaving NORMAL, and on entering DARK trips the feeders and empties the sets and the batch. -/
  | shuGridStateChange
  /-- GSQ_GRID_STATE_CHANGE (R100). GSQ takes a grid-state announcement and clears the live view, empties the crank wait list and releases or grants the permit. -/
  | gsqGridStateChange
  /-- RSQ_GRID_STATE_CHANGE (R132). RSQ takes a grid-state announcement: it activates the step on entry to RESTORING, or ends an overtaken plan FAILED. -/
  | rsqGridStateChange
  /-- RSQ_DARK_DECLARATION (R142). RSQ takes a dark declaration: it fails a running plan and sets the dark settle. -/
  | rsqDarkDeclaration
  /-- GRID_LIVE_DECLARATION (R35). BLU takes LIVE and moves SURVEY, DARK or a completed RESTORING to NORMAL, then evaluates at once. -/
  | gridLiveDeclaration
  /-- GSQ_LIVE_DECLARATION (R100). GSQ sets its live view, releases the permit and empties the waiters. -/
  | gsqLiveDeclaration
  /-- RSQ_LIVE_DECLARATION (R138). RSQ sets its live view and starts a SETTLE timing or gives a waiting start order. -/
  | rsqLiveDeclaration
  /-- PLAN_START_REPORT (R36). BLU takes the plan start and moves DARK to RESTORING. -/
  | planStartReport
  /-- PLAN_END_REPORT (R37). BLU takes a plan COMPLETE or FAILED and leaves RESTORING by the bus state. -/
  | planEndReport
  /-- RSQ_GENSET_ONLINE (R135). RSQ takes a genset's entry to ONLINE, which completes its START_GENSET step. -/
  | rsqGensetOnline
  /-- RSQ_GENSET_LOCKOUT (R135). RSQ takes a genset's entry to LOCKOUT, which is a hard failure of an active START_GENSET step. -/
  | rsqGensetLockout
  /-- RSQ_FEEDER_CLOSED (R136). RSQ takes a feeder's entry to CLOSED, which completes its CLOSE_FEEDER step. -/
  | rsqFeederClosed
  /-- RSQ_FEEDER_BREAKER_FAIL (R136). RSQ takes a feeder's entry to BREAKER_FAIL, which is a hard failure of its CLOSE_FEEDER step. -/
  | rsqFeederBreakerFail
  /-- STEP_TIMEOUT_EXPIRY (R134). The active step fails and is skipped, or the plan is aborted. -/
  | stepTimeoutExpiry
  /-- STEP_SETTLE_EXPIRY (R138). The SETTLE step's timing expires and the step is DONE. -/
  | stepSettleExpiry
  /-- RESUME_WAIT_EXPIRY (R141). A paused plan returns to RUNNING with the same cursor. -/
  | resumeWaitExpiry
  /-- DARK_SETTLE_EXPIRY (R131). Auto-run starts the plan when its conditions and the plan check pass. -/
  | darkSettleExpiry
  /-- STAGGER_EXPIRY (R114). SHU rechecks the batch head and pulses it with cause SHED_RESERVE. -/
  | staggerExpiry
  /-- RECLOSE_DELAY_EXPIRY (R119). SHU makes a close request for the reclose candidate when its checks pass. -/
  | recloseDelayExpiry
  /-- BREAKER_CONFIRM_EXPIRY (R104). A feeder's breaker did not follow its trip or close and it enters BREAKER_FAIL. -/
  | breakerConfirmExpiry (slot : SlotIx)
  /-- TRIP_PULSE_END (R169). LNU ends a trip pulse; a feeder without a status line enters TRIPPED. -/
  | tripPulseEnd (slot : SlotIx)
  /-- CLOSE_WINDOW_START (R170). LNU drives the close line active and the feeder enters CLOSING. -/
  | closeWindowStart (slot : SlotIx)
  /-- CLOSE_WINDOW_END (R170). LNU drives the close line inactive; a feeder without a status line enters CLOSED. -/
  | closeWindowEnd (slot : SlotIx)
  /-- INPUT_PIN_CHANGE (R165). A filtered input pin changes level and starts or abandons a filter hold. -/
  | inputPinChange (after : Nat) (line : LineIx) (high : Bool)
  /-- INPUT_FILTER_EXPIRY (R165). The pin has held its new level for the filter time, so the filtered level changes and an input change is delivered. -/
  | inputFilterExpiry (line : LineIx)
  /-- GEN_BREAKER_CHANGE (R86). GSQ takes a genset breaker change: a close enters ONLINE, an opening trips ONLINE, and the permit is released or granted. -/
  | genBreakerChange
  /-- GENSET_READY_CHANGE (R87). GSQ takes a ready input change: to RUN_UP when cranking, to LOCKOUT on a loss while running. -/
  | gensetReadyChange
  /-- BMN_BREAKER_CHANGE (R54). BMN takes a genset breaker change and declares dark when every breaker is open under the no-edge condition. -/
  | bmnBreakerChange
  /-- FEEDER_STATUS_CHANGE (R106). SHU takes a feeder status change and confirms a trip or close, or takes an external trip or close. -/
  | feederStatusChange
  /-- ZERO_CROSS_PIN_CHANGE (R167). The zero-cross pin rises and is stamped with F and held, or falls and abandons a pending hold. -/
  | zeroCrossPinChange (after : Nat) (high : Bool)
  /-- ZERO_CROSS_FILTER_EXPIRY (R167). A rising level has held for the zero-cross filter time and is handed to BMN as a stamped edge. -/
  | zeroCrossFilterExpiry
  /-- FRAME_TRANSMITTED (R149). The last byte of a field frame has left and the reply allowance starts. -/
  | frameTransmitted
  /-- TURNAROUND_GAP_END (R149). The turnaround gap ends: a retry is sent after a failed attempt, or the line is free for the arbiter. -/
  | turnaroundGapEnd
  /-- REPLY_ALLOWANCE_EXPIRY (R149). No valid reply came in the allowance: the first attempt fails, or the transaction ends as a miss. -/
  | replyAllowanceExpiry
  /-- FIELD_FRAME_RECEIVED (R150). A received field frame is judged valid or discarded; a valid one answers the transaction. -/
  | fieldFrameReceived (frame : List Byte)
  /-- FRAME_SILENCE_TIMEOUT (R149). No byte has arrived for four character times and the frame being received ends as not valid. -/
  | frameSilenceTimeout
  /-- RSQ_FREQUENCY_UPDATE (R138). RSQ takes a new frequency value handed by the Bus Monitor and sets or cancels the step settle of an active SETTLE step. -/
  | rsqFrequencyUpdate
  /-- FRAME_FIRST_BYTE_RECEIVED (R149). The first byte of a field frame arrives, so the frame is being received and the reply allowance or turnaround gap waits for its end. Named while a frame is being received it is a further byte of that frame (assumption log 10). -/
  | frameFirstByteReceived
deriving DecidableEq, Repr

end Sys2Proof
end

