-- ==== Sys2Proof/Machine/Params.lean ====
section
/-! DEFINITION. The parameters of section 10.3: identifiers, defaults and fixed ranges. -/

namespace Sys2Proof.Machine

/-- The parameters the host reaches by identifier (section 10.3), named as their owners' tables name
them. -/
inductive Param where
  | evalPeriod | reserveBase | cloudFactor | loadMargin | emergReserve | ofStart | ofFull
  | stopDelay | stopMargin | minRun | stateHyst
  | nominal
  | ufThreshold (k : StageIx) | ufDelay (k : StageIx) | ufHysteresis (k : StageIx)
  | ufShare (k : StageIx) | ufWindow (k : StageIx)
  | darkTime | liveHold | liveBand
  | crankTime | crankRest | crankAttempts | warmTime | syncTime | unloadTime | unloadLevel
  | coolTime | startLimit
  | staggerGap | confirmTime | reserveWindow | recloseDelay | recloseMargin
  | tripWidth | closeDelay | closeWidth
  | baud | pollCycle | missLimit | staleTime
  | darkSettle | resumeSettle
  | notifyThreshold
deriving DecidableEq, Repr

/-- Every parameter, in identifier order (section 10.3). -/
def Param.all : List Param :=
  [.evalPeriod, .reserveBase, .cloudFactor, .loadMargin, .emergReserve, .ofStart, .ofFull,
   .stopDelay, .stopMargin, .minRun, .stateHyst, .nominal] ++
  (List.finRange 4).map .ufThreshold ++ (List.finRange 4).map .ufDelay ++
  (List.finRange 4).map .ufHysteresis ++ (List.finRange 4).map .ufShare ++
  (List.finRange 4).map .ufWindow ++
  [.darkTime, .liveHold, .liveBand,
   .crankTime, .crankRest, .crankAttempts, .warmTime, .syncTime, .unloadTime, .unloadLevel,
   .coolTime, .startLimit,
   .staggerGap, .confirmTime, .reserveWindow, .recloseDelay, .recloseMargin,
   .tripWidth, .closeDelay, .closeWidth,
   .baud, .pollCycle, .missLimit, .staleTime, .darkSettle, .resumeSettle, .notifyThreshold]

/-- The place of a parameter in the store: its place in `Param.all`. -/
def Param.index : Param → Fin 59
  | .evalPeriod => 0 | .reserveBase => 1 | .cloudFactor => 2 | .loadMargin => 3
  | .emergReserve => 4 | .ofStart => 5 | .ofFull => 6 | .stopDelay => 7 | .stopMargin => 8
  | .minRun => 9 | .stateHyst => 10 | .nominal => 11
  | .ufThreshold k => ⟨12 + k, by omega⟩ | .ufDelay k => ⟨16 + k, by omega⟩
  | .ufHysteresis k => ⟨20 + k, by omega⟩ | .ufShare k => ⟨24 + k, by omega⟩
  | .ufWindow k => ⟨28 + k, by omega⟩
  | .darkTime => 32 | .liveHold => 33 | .liveBand => 34
  | .crankTime => 35 | .crankRest => 36 | .crankAttempts => 37 | .warmTime => 38
  | .syncTime => 39 | .unloadTime => 40 | .unloadLevel => 41 | .coolTime => 42 | .startLimit => 43
  | .staggerGap => 44 | .confirmTime => 45 | .reserveWindow => 46 | .recloseDelay => 47
  | .recloseMargin => 48 | .tripWidth => 49 | .closeDelay => 50 | .closeWidth => 51
  | .baud => 52 | .pollCycle => 53 | .missLimit => 54 | .staleTime => 55
  | .darkSettle => 56 | .resumeSettle => 57 | .notifyThreshold => 58

/-- The identifier of a parameter in SET_PARAMETER and GET_PARAMETER (the table of section 10.3). -/
def Param.id : Param → Nat
  | .evalPeriod => 0x01 | .reserveBase => 0x02 | .cloudFactor => 0x03 | .loadMargin => 0x04
  | .emergReserve => 0x05 | .ofStart => 0x06 | .ofFull => 0x07 | .stopDelay => 0x08
  | .stopMargin => 0x09 | .minRun => 0x0A | .stateHyst => 0x0B
  | .nominal => 0x10
  | .ufThreshold k => 0x11 + k | .ufDelay k => 0x15 + k | .ufHysteresis k => 0x19 + k
  | .ufShare k => 0x1D + k | .ufWindow k => 0x21 + k
  | .darkTime => 0x25 | .liveHold => 0x26 | .liveBand => 0x27
  | .crankTime => 0x30 | .crankRest => 0x31 | .crankAttempts => 0x32 | .warmTime => 0x33
  | .syncTime => 0x34 | .unloadTime => 0x35 | .unloadLevel => 0x36 | .coolTime => 0x37
  | .startLimit => 0x38
  | .staggerGap => 0x40 | .confirmTime => 0x41 | .reserveWindow => 0x42 | .recloseDelay => 0x43
  | .recloseMargin => 0x44
  | .tripWidth => 0x48 | .closeDelay => 0x49 | .closeWidth => 0x4A
  | .baud => 0x50 | .pollCycle => 0x51 | .missLimit => 0x52 | .staleTime => 0x53
  | .darkSettle => 0x58 | .resumeSettle => 0x59
  | .notifyThreshold => 0x60

/-- The parameter an identifier names, if any (R178). -/
def Param.ofId (n : Nat) : Option Param := Param.all.find? (fun p => p.id == n)

/-- The default UF threshold of a stage for a nominal frequency (R50). -/
def Param.thresholdDefault (nominal : Nat) (k : StageIx) : Nat :=
  if nominal = 60000 then #v[58800, 58440, 58080, 57600][k]
  else #v[49000, 48700, 48400, 48000][k]

/-- The default of OF_START for a nominal frequency (R77). -/
def Param.ofStartDefault (nominal : Nat) : Nat := nominal + 200

/-- The default of OF_FULL for a nominal frequency (R77). -/
def Param.ofFullDefault (nominal : Nat) : Nat := nominal + 1500

/-- The default of each parameter, with NOMINAL at its own default of 50 000 (R12, R41, R50, R51,
R58, R77, R101, R124, R131, R141, R159, R172, R180). -/
def Param.default : Param → Nat
  | .evalPeriod => 200 | .reserveBase => 200 | .cloudFactor => 25 | .loadMargin => 50
  | .emergReserve => 0 | .ofStart => ofStartDefault 50000 | .ofFull => ofFullDefault 50000
  | .stopDelay => 300 | .stopMargin => 100 | .minRun => 600 | .stateHyst => 50
  | .nominal => 50000
  | .ufThreshold k => thresholdDefault 50000 k
  | .ufDelay k => #v[200, 200, 100, 0][k]
  | .ufHysteresis _ => 100
  | .ufShare k => #v[10, 10, 15, 15][k]
  | .ufWindow k => #v[3, 6, 9, 12][k]
  | .darkTime => 500 | .liveHold => 2000 | .liveBand => 500
  | .crankTime => 15 | .crankRest => 10 | .crankAttempts => 3 | .warmTime => 10
  | .syncTime => 60 | .unloadTime => 30 | .unloadLevel => 10 | .coolTime => 120 | .startLimit => 1
  | .staggerGap => 100 | .confirmTime => 500 | .reserveWindow => 7 | .recloseDelay => 30
  | .recloseMargin => 100
  | .tripWidth => 200 | .closeDelay => 0 | .closeWidth => 200
  | .baud => 230400 | .pollCycle => 500 | .missLimit => 3 | .staleTime => 1500
  | .darkSettle => 5 | .resumeSettle => 10
  | .notifyThreshold => 4

/-- The fixed range of each parameter, both ends included. What a range says beyond this (NOMINAL and
BAUD take listed values, the thresholds descend, OF_START and OF_FULL are judged against NOMINAL and
each other) stands in `Param.accepts`. -/
def Param.range : Param → Nat × Nat
  | .evalPeriod => (100, 1000) | .reserveBase => (0, 20000) | .cloudFactor => (0, 100)
  | .loadMargin => (0, 2000) | .emergReserve => (0, 5000)
  | .ofStart => (0, 70000) | .ofFull => (0, 70000)
  | .stopDelay => (60, 1800) | .stopMargin => (0, 5000) | .minRun => (0, 3600)
  | .stateHyst => (0, 2000)
  | .nominal => (50000, 60000)
  | .ufThreshold _ => (45000, 59900) | .ufDelay _ => (0, 5000) | .ufHysteresis _ => (0, 500)
  | .ufShare _ => (0, 50) | .ufWindow _ => (0, 15)
  | .darkTime => (200, 2000) | .liveHold => (500, 10000) | .liveBand => (100, 2000)
  | .crankTime => (5, 60) | .crankRest => (5, 60) | .crankAttempts => (1, 5)
  | .warmTime => (0, 300) | .syncTime => (10, 180) | .unloadTime => (5, 120)
  | .unloadLevel => (1, 50) | .coolTime => (0, 900) | .startLimit => (1, 3)
  | .staggerGap => (0, 500) | .confirmTime => (50, 2000) | .reserveWindow => (0, 15)
  | .recloseDelay => (5, 600) | .recloseMargin => (0, 2000)
  | .tripWidth => (50, 1000) | .closeDelay => (0, 500) | .closeWidth => (50, 1000)
  | .baud => (115200, 460800) | .pollCycle => (200, 5000) | .missLimit => (1, 10)
  | .staleTime => (500, 10000)
  | .darkSettle => (0, 60) | .resumeSettle => (0, 60)
  | .notifyThreshold => (1, 7)

/-- The parameter store at its defaults. -/
def Param.defaults : Vector Nat 59 :=
  Vector.ofFn (fun i => ((Param.all[i.val]?).map Param.default).getD 0)

end Sys2Proof.Machine
end

