-- ==== Sys2Proof/Machine/State.lean ====
section
/-! DEFINITION. The state of the IG40 as plain data, block by block (section 3 of the scope file), and
the state after a power-on reset of a part whose settings image has never been written. -/

namespace Sys2Proof.Machine

/-! ### Why a step stops -/

/-- The reasons a step can fault. No command of the model ends in a fault: the manual describes an
effect, a refusal response or no effect for each. -/
inductive Fault where
  /-- Raised by nothing. It stands for a stop of the part that the manual would describe and does not:
  safe, since no run reaches it. -/
  | halted
deriving DecidableEq, Repr

/-- The reasons a step can be refused. -/
inductive Refusal where
  /-- Raised only by an arm of `exec` whose command has no meaning yet; safe, since the run stops. No
  arm of this model answers with it. -/
  | notModelled (mnemonic : String)
deriving DecidableEq, Repr

/-! ### The Asset Table (chapter 1) -/

/-- The three kinds of record (section 1.1). -/
inductive Kind where
  | genset | pv | feeder
deriving DecidableEq, Repr

/-- The lifecycle of a record that is not FREE (section 1.7). -/
inductive Lifecycle where
  | provisional | active | retiring
deriving DecidableEq, Repr

/-- The sequence state of a genset (section 5.1). -/
inductive GensetState where
  | stopped | cranking | resting | runUp | syncing | online | unloading | cooldown | lockout
deriving DecidableEq, Repr

/-- The state of a feeder (section 6.2). -/
inductive FeederState where
  | closed | tripPending | opening | tripped | closePending | closing | breakerFail
deriving DecidableEq, Repr

/-- The cause of a trip (section 1.5). -/
inductive TripCause where
  | shedReserve | shedStage (k : StageIx) | dark | external | host | unknown
deriving DecidableEq, Repr

/-- A binding (station address, unit) (section 1.4). -/
structure Binding where
  address : Nat
  unit : Nat
deriving DecidableEq, Repr

/-- The fields of a GENSET record (section 1.5). -/
structure Genset where
  rated : Nat
  minLoad : Nat
  rank : Nat
  mustRun : Bool
  runLine : LineIx
  readyLine : LineIx
  breakerLine : LineIx
  permitLine : Option LineIx
  state : GensetState
  attempts : Nat
  onlineSince : Option Time
  trips : Nat
  output : Option Nat
  fault : Bool
deriving DecidableEq, Repr

/-- The fields of a PV record (section 1.5). -/
structure Pv where
  rated : Nat
  cls : Nat
  ramp : Option Nat
  setpoint : Nat
  lastSent : Option Nat
  lastAck : Option Nat
  unconfirmed : Bool
  planCap : Option Nat
  output : Option Nat
  available : Option Nat
  limited : Bool
deriving DecidableEq, Repr

/-- The fields of a FEEDER record (section 1.5), with the pending cause SHU keeps beside them
(section 6.1). -/
structure Feeder where
  cls : Nat
  sheddable : Bool
  nominal : Nat
  tripLine : LineIx
  closeLine : Option LineIx
  statusLine : Option LineIx
  state : FeederState
  hold : Nat
  cause : Option TripCause
  measured : Option Nat
  lastChange : Time
  pendingCause : Option TripCause
deriving DecidableEq, Repr

/-- The fields of a record's kind. -/
inductive Body where
  | genset (g : Genset)
  | pv (p : Pv)
  | feeder (f : Feeder)
deriving DecidableEq, Repr

/-- The kind of a record. -/
def Body.kind : Body → Kind
  | .genset _ => .genset
  | .pv _ => .pv
  | .feeder _ => .feeder

/-- A record: the common fields (section 1.5) and the fields of its kind. -/
structure Record where
  lifecycle : Lifecycle
  tag : Nat
  binding : Option Binding
  lastReport : Option Time
  fresh : Bool
  body : Body
deriving DecidableEq, Repr

/-- A slot: its generation, and its record unless it is FREE (R1, R2). -/
structure Slot where
  gen : Nat
  record : Option Record
deriving DecidableEq, Repr

/-! ### The Station Directory and the field link (chapter 8) -/

/-- The class of a station (section 8.1). -/
inductive StationClass where
  | gensetCtrl | pvCtrl | feederMeter
deriving DecidableEq, Repr

/-- The access of a station (section 8.1). -/
inductive Access where
  | reportOnly | commandOnly | reportCommand
deriving DecidableEq, Repr

/-- What the part knows of a station's answering (section 8.1). -/
inductive Reach where
  | unknown | reachable | suspect | unreachable
deriving DecidableEq, Repr

/-- An entry of the Station Directory (section 8.1). -/
structure Station where
  address : Nat
  cls : StationClass
  units : Nat
  access : Access
  allowance : Nat
  gap : Nat
  misses : Nat
  reach : Reach
  due : Bool
deriving DecidableEq, Repr

/-- An entry of the setpoint queue (R152). -/
structure SetpointEntry where
  slot : SlotIx
  gen : Nat
  value : Nat
deriving DecidableEq, Repr

/-- An entry of the command queue: one UNLOAD order (R154). -/
structure CommandEntry where
  slot : SlotIx
  gen : Nat
deriving DecidableEq, Repr

/-- What a field transaction carries: a POLL with the unit count fixed at its start, or a SETPOINT or
an UNLOAD with the record it serves by slot and generation (R149). -/
inductive Errand where
  | poll (units : Nat)
  | setpoint (slot : SlotIx) (gen : Nat) (unit value : Nat)
  | unload (slot : SlotIx) (gen : Nat) (unit : Nat)
deriving DecidableEq, Repr

/-- A field transaction, with what FLC fixes at its start (R149, R159). -/
structure Transaction where
  address : Nat
  allowance : Nat
  gap : Nat
  errand : Errand
  baud : Nat
  frame : List Byte
  retry : Bool
deriving DecidableEq, Repr

/-- What FLC is doing with the line (R149). The times are instants of the elapsed count `State.now`. -/
inductive LinkPhase where
  /-- The line is free. -/
  | free
  /-- A frame is being transmitted, its last byte leaving at the given instant. -/
  | sending (till : Nat)
  /-- The reply allowance runs to the given instant. -/
  | waiting (till : Nat)
  /-- The turnaround gap after a failed first attempt runs to the given instant. -/
  | retryGap (till : Nat)
  /-- The turnaround gap after the end of a transaction runs to the given instant. -/
  | endGap (till : Nat)
deriving DecidableEq, Repr

/-- The Field Link Controller (sections 8.3 to 8.9). `receiving` is present while a frame is being
received and gives the instant of the last byte heard, from which four character times of silence are
counted. `rate` is the rate the line runs at: the one the last transaction began at, and BAUD after a reset
(R149, R159). -/
structure FieldLink where
  setpoints : List SetpointEntry
  commands : List CommandEntry
  transaction : Option Transaction
  phase : LinkPhase
  receiving : Option Nat
  fairness : Nat
  cycle : Nat
  transmit : Bool
  rate : Nat
deriving DecidableEq, Repr

/-! ### The Bus Monitor (chapter 3) -/

/-- The Bus Monitor (section 3.1). Which stage delays, dark timer and live hold run is held by the
deadline list. -/
structure BusMonitor where
  history : List Time
  frequency : Nat
  raised : Vector Bool 4
  freeze : Bool
  noEdge : Bool
  live : Bool
  dark : Bool
deriving DecidableEq, Repr

/-! ### The Balance Unit (chapters 2 and 4) -/

/-- The grid state (section 2.1). -/
inductive GridState where
  | survey | normal | short | emergency | dark | restoring
deriving DecidableEq, Repr

/-- The results of an evaluation (R28, R63): L, H, Rq, A, Ds and Dh. -/
structure Results where
  load : Nat
  headroom : Int
  required : Nat
  allowance : Nat
  startDemand : Nat
  shedDemand : Nat
deriving DecidableEq, Repr

/-- The Balance Unit (R28, R60, R74). -/
structure BalanceUnit where
  grid : GridState
  results : Option Results
  effStart : Nat
  effShed : Nat
  stopCandidate : Option SlotIx
  reevaluation : Bool
  minRunMark : Vector Bool 64
deriving DecidableEq, Repr

/-! ### The Genset Sequencer, the Shed Unit and the Restoration Sequencer (chapters 5 to 7) -/

/-- What the Genset Sequencer holds beside the records (R78). -/
structure GensetSequencer where
  waitList : List SlotIx
  permitHolder : Option SlotIx
  waiters : List SlotIx
  demand : Nat
  live : Bool
deriving DecidableEq, Repr

/-- What the Shed Unit holds beside the records (section 6.1). Shortfall flags 0 to 3 are those of
stages 1 to 4. -/
structure ShedUnit where
  armed : Vector (List SlotIx) 4
  batch : List SlotIx
  lastPulse : Option Time
  recloseCandidate : Option SlotIx
  stageShort : Vector Bool 4
  reserveShort : Bool
deriving DecidableEq, Repr

/-- The kinds of plan step with their figures (section 7.1). -/
inductive StepAction where
  | startGenset (target : Handle) (deadBus : Bool)
  | closeFeeder (target : Handle)
  | releasePv (target : Handle) (cap : Nat)
  | settle (ms : Nat)
  | gateReserve (kw : Nat)
deriving DecidableEq, Repr

/-- What a failure of a step does to the plan (section 7.1). -/
inductive OnFailure where
  | abort | skip
deriving DecidableEq, Repr

/-- A plan step without its status (section 7.1). A timeout of 0 means none. -/
structure PlanStep where
  action : StepAction
  timeout : Nat
  onFailure : OnFailure
deriving DecidableEq, Repr

/-- How far a step has come (section 7.1). -/
inductive StepStatus where
  | pending | active | done | failed | skipped
deriving DecidableEq, Repr

/-- The plan state (section 7.1). -/
inductive PlanState where
  | idle | running | paused | complete | failed
deriving DecidableEq, Repr

/-- The Restoration Sequencer (R125). -/
structure Restoration where
  steps : Vector (Option PlanStep) 32
  length : Nat
  autoRun : Bool
  state : PlanState
  cursor : PosIx
  status : Vector StepStatus 32
  written : Vector Bool 32
  stageView : Vector Bool 4
  live : Bool
  orderGiven : Bool
  closeMade : Bool
deriving DecidableEq, Repr

/-! ### The Schedule Unit and the Line Unit (chapter 9) -/

/-- The owner, purpose and owner index of a deadline (section 9.2). -/
inductive DeadlineKey where
  | evaluation | stopDelay | pollCycle
  | gensetTimer (slot : SlotIx)
  | ufStage (k : StageIx)
  | darkTimer | liveHold
  | stepTimeout | stepSettle | darkSettle
  | stagger | recloseDelay
  | breakerConfirm (slot : SlotIx)
deriving DecidableEq, Repr

/-- An entry of the deadline list (R161). -/
structure Deadline where
  key : DeadlineKey
  due : Time
  period : Option Nat
deriving DecidableEq, Repr

/-- The Schedule Unit: the deadline list, and the expiries it has delivered that their owners have not
taken yet (R161, R162). -/
structure Schedule where
  entries : List Deadline
  delivered : List DeadlineKey
deriving DecidableEq, Repr

/-- The function of a line (section 9.3). -/
inductive LineFunction where
  | unused | tripOut | closeOut | statusIn | runOut | readyIn | genBreakerIn | permitOut | zeroCrossIn
deriving DecidableEq, Repr

/-- The polarity of a line (section 9.3). -/
inductive Polarity where
  | activeHigh | activeLow
deriving DecidableEq, Repr

/-- A filter hold in progress: the instant at which it ends and, for a zero-cross input, the value of
time base F at the rising change (R165, R167). -/
structure FilterHold where
  till : Nat
  stamp : Time
deriving DecidableEq, Repr

/-- A close window: its start and end on time base S, and whether it has started (R170). -/
structure CloseWindow where
  start : Time
  stop : Time
  started : Bool
deriving DecidableEq, Repr

/-- A hardwired line: configuration, pin, input filter, and what LNU drives. `filter` is in ms, and in
µs for ZERO_CROSS_IN. `driven` is the active level of an output (sections 9.3 to 9.6). -/
structure Line where
  function : LineFunction
  polarity : Polarity
  filter : Nat
  pin : Bool
  filtered : Bool
  hold : Option FilterHold
  lastChange : Option Time
  driven : Bool
  pulse : Option Time
  window : Option CloseWindow
deriving DecidableEq, Repr

/-! ### Host port, notices and stored settings (chapter 10) -/

/-- The Host Port (section 10.1), with the bytes the last transaction shifted out and the level of the
RESET input (true while asserted). -/
structure HostPort where
  response : Option (List Byte)
  request : Option Instr
  shifted : List Byte
  resetHeld : Bool
deriving DecidableEq, Repr

/-- A pending notice: its detail byte, absent for none, and its count (R179). -/
structure Notice where
  detail : Option Nat
  count : Nat
deriving DecidableEq, Repr

/-- The Notice Unit (section 10.4). `notifyLow` is the NOTIFY output, driven low. -/
structure NoticeUnit where
  held : Vector (Option Notice) 22
  levels : Vector Nat 22
  notifyLow : Bool
deriving DecidableEq, Repr

/-- The configuration fields of a line, as the image holds them (R182). -/
structure LineConfig where
  function : LineFunction
  polarity : Polarity
  filter : Nat
deriving DecidableEq, Repr

/-- The contents of the settings image (R182). Records and stations are held with every runtime field
at the value a reset gives it, so that an image carries configuration only. -/
structure Image where
  stations : Vector (Option Station) 32
  slots : Vector Slot 64
  lines : Vector LineConfig 64
  params : Vector Nat 59
  steps : Vector (Option PlanStep) 32
  planLength : Nat
  autoRun : Bool
  levels : Vector Nat 22
deriving DecidableEq, Repr

/-- One written image area of the nonvolatile memory: length, contents and check value (R182). -/
structure ImageArea where
  length : Nat
  contents : Image
  check : BitVec 32
deriving DecidableEq, Repr

/-- A write of the image in flight: the snapshot and the instant it was taken (R182). -/
structure SaveInFlight where
  snapshot : Image
  since : Nat
deriving DecidableEq, Repr

/-- The Settings Store: the area the next reset loads, the spare area (absent: never written, or left
incomplete), and the write in flight (R182, R183). -/
structure SettingsStore where
  current : Option ImageArea
  spare : Option ImageArea
  saving : Option SaveInFlight
deriving DecidableEq, Repr

/-! ### What one block hands another -/

/-- What an evaluation leaves for one capped plant: its setpoint, and whether a setpoint request was
queued for it (R71). -/
structure CapResult where
  slot : SlotIx
  setpoint : Nat
  queued : Bool
deriving DecidableEq, Repr

/-- An event handed by one block to another and not yet taken. Each is taken by the row of the opcode
table that names it (assumption log 2). An input change carries the line, the new level and the value of time
base S at its delivery (R165). -/
inductive Message where
  | startDemand (kw : Nat)
  | shuEvaluation (shed load : Nat) (headroom : Int) (required : Nat) (grid : GridState)
  | rsqEvaluation (headroom : Int) (caps : List CapResult)
  | stageRaiseBlu (k : StageIx)
  | stageRaiseShu (k : StageIx)
  | stageRaiseRsq (k : StageIx)
  | stageClearRsq (k : StageIx)
  | darkBlu
  | darkRsq
  | liveBlu
  | liveGsq
  | liveRsq
  | gridShu (old new : GridState)
  | gridGsq (old new : GridState)
  | gridRsq (old new : GridState)
  | planStart
  | planEnd (complete : Bool)
  | gensetOnline (slot : SlotIx)
  | gensetLockout (slot : SlotIx)
  | feederClosed (slot : SlotIx)
  | feederFail (slot : SlotIx)
  | breakerGsq (line : LineIx) (closed : Bool) (stamp : Time)
  | breakerBmn (line : LineIx) (closed : Bool) (stamp : Time)
  | readyGsq (line : LineIx) (active : Bool) (stamp : Time)
  | statusShu (line : LineIx) (closed : Bool) (stamp : Time)
  | frequency (mHz : Nat)
deriving DecidableEq, Repr

/-! ### The machine -/

/-- The state of the IG40. `now` counts 100 ns since the last reset: time bases F and S are its two
32-bit views (`State.timeF`, `State.timeS`). `mail` holds what blocks have handed each other,
`freeCount` counts the responses made (it feeds the free bytes of assumption log 5), and `pending` is
the queue of commands from outside, first in, first out. -/
structure State where
  now : Nat
  port : HostPort
  ntu : NoticeUnit
  store : SettingsStore
  slots : Vector Slot 64
  stations : Vector (Option Station) 32
  link : FieldLink
  bus : BusMonitor
  blu : BalanceUnit
  gsq : GensetSequencer
  shu : ShedUnit
  rsq : Restoration
  scu : Schedule
  lines : Vector Line 64
  params : Vector Nat 59
  mail : List Message
  freeCount : Nat
  pending : List Instr
deriving DecidableEq, Repr

/-- The default notice levels (section 10.4). -/
def defaultLevels : Vector Nat 22 :=
  #v[3, 2, 5, 6, 5, 4, 5, 6, 6, 4, 7, 6, 4, 6, 4, 5, 2, 3, 3, 3, 7, 7]

/-- An UNUSED line at its defaults, its pin low (R173; the pin level is assumption log 4). -/
def Line.fresh : Line :=
  { function := .unused, polarity := .activeHigh, filter := 10, pin := false, filtered := false,
    hold := none, lastChange := none, driven := false, pulse := none, window := none }

/-- The machine right after a power-on reset with no settings image written (R27, R28, R43, R59, R78,
R102, R125, R143, R155, R158, R162, R173, R175, R179, R184). -/
def State.reset : State where
  now := 0
  port := { response := none, request := none, shifted := [], resetHeld := false }
  ntu :=
    { held := ((Vector.replicate 22 none).set 20 (some { detail := none, count := 1 })).set 21
        (some { detail := none, count := 1 }),
      levels := defaultLevels, notifyLow := true }
  store := { current := none, spare := none, saving := none }
  slots := Vector.replicate 64 { gen := 1, record := none }
  stations := Vector.replicate 32 none
  link :=
    { setpoints := [], commands := [], transaction := none, phase := .free, receiving := none,
      fairness := 0, cycle := 0, transmit := false, rate := 230400 }
  bus :=
    { history := [], frequency := 0, raised := Vector.replicate 4 false, freeze := false,
      noEdge := false, live := false, dark := false }
  blu :=
    { grid := .survey, results := none, effStart := 0, effShed := 0, stopCandidate := none,
      reevaluation := false, minRunMark := Vector.replicate 64 false }
  gsq := { waitList := [], permitHolder := none, waiters := [], demand := 0, live := false }
  shu :=
    { armed := Vector.replicate 4 [], batch := [], lastPulse := none, recloseCandidate := none,
      stageShort := Vector.replicate 4 false, reserveShort := false }
  rsq :=
    { steps := Vector.replicate 32 none, length := 0, autoRun := false, state := .idle, cursor := 0,
      status := Vector.replicate 32 .pending, written := Vector.replicate 32 false,
      stageView := Vector.replicate 4 false, live := false, orderGiven := false, closeMade := false }
  scu :=
    { entries :=
        [{ key := .evaluation, due := 200, period := some 200 },
         { key := .pollCycle, due := 500, period := some 500 },
         { key := .darkTimer, due := 500, period := none }],
      delivered := [] }
  lines := Vector.replicate 64 Line.fresh
  params := Param.defaults
  mail := []
  freeCount := 0
  pending := []

end Sys2Proof.Machine
end

