-- ==== Sys2Proof/Machine/Ops.lean ====
section
/-! DEFINITION. The operations shared by every block: the two time bases, parameters, the deadline
list, what blocks hand each other, and access to slots, records and lines. -/

namespace Sys2Proof.Machine

/-! ### Arithmetic -/

/-- Division rounded up (R65, R72, R111). -/
def ceilDiv (a b : Nat) : Nat := (a + b - 1) / b

/-- A signed value taken into the range 0 to `hi` (R10). -/
def clamp (v : Int) (hi : Nat) : Nat := min v.toNat hi

/-! ### Time -/

/-- Time base S: milliseconds since the last reset, in 32 bits (R160). -/
def State.timeS (s : State) : Time := BitVec.ofNat 32 (s.now / Config.countsPerMs)

/-- Time base F: counts of 100 ns since the last reset, in 32 bits (R167). -/
def State.timeF (s : State) : Time := BitVec.ofNat 32 s.now

/-- Whether time `due` has been reached at time `t`: their difference read as a signed number is at or
above 0 (R160). -/
def reached (t due : Time) : Bool := decide ((t - due).toNat < 2 ^ 31)

/-- The span from an earlier value of S to now, modulo 2 to the 32 (R12, R74). -/
def State.since (s : State) (t : Time) : Nat := (s.timeS - t).toNat

/-- The instant at which S shows `due`, if it has not been reached; otherwise the present instant. -/
def State.instantOf (s : State) (due : Time) : Nat :=
  if reached s.timeS due then s.now
  else (s.now / Config.countsPerMs + (due - s.timeS).toNat) * Config.countsPerMs

/-! ### Parameters -/

/-- The value of a parameter in force (R178). -/
def State.param (s : State) (p : Param) : Nat := s.params[p.index]

/-- Put a value in force. -/
def State.setParam (p : Param) (v : Nat) (s : State) : State :=
  { s with params := s.params.set p.index v }

/-! ### The deadline list (R161, R162) -/

/-- Whether time `a` falls after time `b`, by the comparison of R160. -/
def later (a b : Time) : Bool := !reached b a

/-- Place an entry by its due time, behind entries of an equal due time (R161). -/
def placeDeadline (d : Deadline) : List Deadline → List Deadline
  | [] => [d]
  | e :: rest => if later e.due d.due then d :: e :: rest else e :: placeDeadline d rest

/-- The count of milliseconds at which S shows `due`, seen from the count `ms`: `ms` itself when the due
time has been reached (R160). Counts do not wrap. -/
def dueAt (ms : Nat) (due : Time) : Nat :=
  if reached (BitVec.ofNat 32 ms) due then ms else ms + (due - BitVec.ofNat 32 ms).toNat

/-- S runs from the count `ms` of milliseconds to the count `till`: entry after entry of the list falls due
on the way, is removed, put back one period later when it is periodic, and its expiry is delivered, in list
order (R162). The first argument after `till` bounds the number of deliveries. -/
def deliverDue (till : Nat) : Nat → Nat → Schedule → Schedule
  | 0, _, c => c
  | n + 1, ms, c =>
    match c.entries with
    | [] => c
    | d :: rest =>
      if dueAt ms d.due ≤ till then
        let rest' := match d.period with
          | some p => placeDeadline { d with due := d.due + BitVec.ofNat 32 p } rest
          | none => rest
        deliverDue till n (dueAt ms d.due) { entries := rest', delivered := c.delivered ++ [d.key] }
      else c

/-- Let time run on to an instant: the time bases advance and SCU delivers what falls due (R160,
R162). An instant already past changes nothing. -/
def State.runTo (target : Nat) (s : State) : State :=
  if target ≤ s.now then s
  else
    let ms := s.now / Config.countsPerMs
    let till := target / Config.countsPerMs
    { s with now := target, scu := deliverDue till (s.scu.entries.length + (till - ms)) ms s.scu }

/-- Remove the entry of a key from the list, and withdraw an expiry of it that its owner has not taken
(R161, R162). -/
def State.cancel (k : DeadlineKey) (s : State) : State :=
  { s with
    scu :=
      { entries := s.scu.entries.filter (fun d => d.key != k),
        delivered := s.scu.delivered.filter (fun k' => k' != k) } }

/-- Set a deadline: it replaces one of the same key, falls due `delay` ms after S, and is delivered as
soon as it is placed when the delay is 0 (R161, R162). -/
def State.setDeadlineWith (k : DeadlineKey) (delay : Nat) (period : Option Nat) (s : State) : State :=
  let s := s.cancel k
  let d : Deadline := { key := k, due := s.timeS + BitVec.ofNat 32 delay, period := period }
  if delay = 0 then
    { s with scu := { s.scu with delivered := s.scu.delivered ++ [k] } }
  else { s with scu := { s.scu with entries := placeDeadline d s.scu.entries } }

/-- Set a deadline that is not periodic. -/
def State.setDeadline (k : DeadlineKey) (delay : Nat) (s : State) : State :=
  s.setDeadlineWith k delay none

/-- Whether a deadline is set: on the list, or delivered and not yet taken (R162). -/
def State.isSet (k : DeadlineKey) (s : State) : Bool :=
  s.scu.entries.any (fun d => d.key == k) || s.scu.delivered.contains k

/-- Take a delivered expiry, leaving the rest. -/
def State.takeDelivered (k : DeadlineKey) (s : State) : State :=
  { s with scu := { s.scu with delivered := s.scu.delivered.erase k } }

/-- The owner takes an expiry of a deadline. A delivered expiry is taken; a deadline still on the list
falls due first, time running on to its due time (assumption log 3); with no such deadline there is
no expiry to take. -/
def State.expire (k : DeadlineKey) (s : State) : Option State :=
  if s.scu.delivered.contains k then some (s.takeDelivered k)
  else
    match s.scu.entries.find? (fun d => d.key == k) with
    | some d => some ((s.runTo (s.instantOf d.due)).takeDelivered k)
    | none => none

/-! ### What blocks hand each other -/

/-- Hand an event to a block. -/
def State.hand (m : Message) (s : State) : State := { s with mail := s.mail ++ [m] }

/-- The first message a selector picks, and the list without it. -/
def takeFirst {α : Type} (sel : Message → Option α) : List Message → Option (α × List Message)
  | [] => none
  | m :: rest =>
    match sel m with
    | some a => some (a, rest)
    | none => (takeFirst sel rest).map (fun p => (p.1, m :: p.2))

/-- A block takes the oldest event of a kind handed to it, or does nothing when none waits
(assumption log 2). -/
def State.take {α : Type} (sel : Message → Option α) (f : α → State → State) (s : State) : State :=
  match takeFirst sel s.mail with
  | some (a, rest) => f a { s with mail := rest }
  | none => s

/-- A step the part takes while it is not held in reset; in reset it has no effect (R185). -/
def State.awake (f : State → State) (s : State) : State := if s.port.resetHeld then s else f s

/-- A step an owner takes at an expiry of its deadline (R162). -/
def State.onExpiry (k : DeadlineKey) (f : State → State) (s : State) : State :=
  s.awake (fun s => match s.expire k with
    | some s' => f s'
    | none => s)

/-! ### Slots and records -/

/-- The record in a slot, absent when the slot is FREE. -/
def State.record? (s : State) (i : SlotIx) : Option Record := s.slots[i].record

/-- Put a record into a slot, keeping its generation. -/
def State.putRecord (i : SlotIx) (r : Record) (s : State) : State :=
  { s with slots := s.slots.set i { s.slots[i] with record := some r } }

/-- Change the record of a slot that is not FREE. -/
def State.modRecord (i : SlotIx) (f : Record → Record) (s : State) : State :=
  match s.record? i with
  | some r => s.putRecord i (f r)
  | none => s

/-- The genset in a slot. -/
def State.genset? (s : State) (i : SlotIx) : Option Genset :=
  match s.record? i with
  | some { body := .genset g, .. } => some g
  | _ => none

/-- The PV plant in a slot. -/
def State.pv? (s : State) (i : SlotIx) : Option Pv :=
  match s.record? i with
  | some { body := .pv p, .. } => some p
  | _ => none

/-- The feeder in a slot. -/
def State.feeder? (s : State) (i : SlotIx) : Option Feeder :=
  match s.record? i with
  | some { body := .feeder f, .. } => some f
  | _ => none

/-- Change the genset fields of a slot; a slot of another kind is left as it is. -/
def State.modGenset (i : SlotIx) (f : Genset → Genset) (s : State) : State :=
  s.modRecord i (fun r => match r.body with
    | .genset g => { r with body := .genset (f g) }
    | _ => r)

/-- Change the PV fields of a slot; a slot of another kind is left as it is. -/
def State.modPv (i : SlotIx) (f : Pv → Pv) (s : State) : State :=
  s.modRecord i (fun r => match r.body with
    | .pv p => { r with body := .pv (f p) }
    | _ => r)

/-- Change the feeder fields of a slot; a slot of another kind is left as it is. -/
def State.modFeeder (i : SlotIx) (f : Feeder → Feeder) (s : State) : State :=
  s.modRecord i (fun r => match r.body with
    | .feeder x => { r with body := .feeder (f x) }
    | _ => r)

/-- Every slot number, ascending. -/
def allSlots : List SlotIx := List.finRange 64

/-- The gensets of the table with their slots, ascending. -/
def State.gensets (s : State) : List (SlotIx × Genset) :=
  allSlots.filterMap (fun i => (s.genset? i).map (fun g => (i, g)))

/-- The PV plants of the table with their slots, ascending. -/
def State.pvs (s : State) : List (SlotIx × Pv) :=
  allSlots.filterMap (fun i => (s.pv? i).map (fun p => (i, p)))

/-- The feeders of the table with their slots, ascending. -/
def State.feeders (s : State) : List (SlotIx × Feeder) :=
  allSlots.filterMap (fun i => (s.feeder? i).map (fun f => (i, f)))

/-- The lifecycle of the record in a slot. -/
def State.lifecycle? (s : State) (i : SlotIx) : Option Lifecycle := (s.record? i).map Record.lifecycle

/-- The generation of a slot. -/
def State.gen (s : State) (i : SlotIx) : Nat := s.slots[i].gen

/-- The slot a handle names, when its slot is not FREE and its generation is the slot's (R3). -/
def State.resolve (s : State) (h : Handle) : Option SlotIx :=
  if hs : h.slot < 64 then
    let i : SlotIx := ⟨h.slot, hs⟩
    if h.gen = 0 ∨ 1023 < h.gen then none
    else if (s.record? i).isSome ∧ s.gen i = h.gen then some i
    else none
  else none

/-- The handle of a slot at its present generation. -/
def State.handleOf (s : State) (i : SlotIx) : Handle := { slot := i, gen := s.gen i }

/-- A record is fresh when its freshness field reads fresh and its last report is at most STALE_TIME
old (R12). -/
def State.isFresh (s : State) (r : Record) : Bool :=
  r.fresh && match r.lastReport with
    | some t => decide (s.since t ≤ s.param .staleTime)
    | none => false

/-- Run a change over a list of items, one after another. -/
def State.each {α : Type} (items : List α) (f : α → State → State) (s : State) : State :=
  items.foldl (fun s a => f a s) s

/-! ### Lines -/

/-- Change a line. -/
def State.modLine (l : LineIx) (f : Line → Line) (s : State) : State :=
  { s with lines := s.lines.set l (f s.lines[l]) }

/-- Drive an output line at an active or inactive level (R168). -/
def State.drive (l : LineIx) (active : Bool) (s : State) : State :=
  s.modLine l (fun x => { x with driven := active })

/-- A line leaves its role: its output is driven inactive, and a pulse or window in progress ends
early (R7, R169, R170). -/
def State.releaseLine (l : LineIx) (s : State) : State :=
  s.modLine l (fun x => { x with driven := false, pulse := none, window := none })

/-- The level a pin shows, read under the line's polarity (R163). -/
def Line.level (x : Line) : Bool :=
  match x.polarity with
  | .activeHigh => x.pin
  | .activeLow => !x.pin

/-- The filtered level of a line (R165). -/
def State.filtered (s : State) (l : LineIx) : Bool := s.lines[l].filtered

/-- Every line configured GEN_BREAKER_IN reads open (R52, R98). -/
def State.allBreakersOpen (s : State) : Bool :=
  (List.finRange 64).all (fun l =>
    s.lines[l].function != .genBreakerIn || !s.lines[l].filtered)

/-- The lines a record's roles take, in field-code order (section 1.4). -/
def Record.lines (r : Record) : List LineIx :=
  match r.body with
  | .genset g => [g.runLine, g.readyLine, g.breakerLine] ++ g.permitLine.toList
  | .pv _ => []
  | .feeder f => [f.tripLine] ++ f.closeLine.toList ++ f.statusLine.toList

/-- The slots whose records serve a line, as the line-role index holds them (R7). -/
def State.lineUsers (s : State) (l : LineIx) : List SlotIx :=
  allSlots.filter (fun i => match s.record? i with
    | some r => r.lines.contains l
    | none => false)

/-! ### Choosing by rank -/

/-- The item of least key, the first of equals. -/
def minBy {α : Type} (key : α → Nat) : List α → Option α
  | [] => none
  | a :: rest =>
    match minBy key rest with
    | some b => if key b < key a then some b else some a
    | none => some a

/-- Insert into a sorted list, behind the items that do not come after it. -/
def insertBy {α : Type} (before : α → α → Bool) (a : α) : List α → List α
  | [] => [a]
  | b :: rest => if before a b then a :: b :: rest else b :: insertBy before a rest

/-- Sort a list; items of which neither comes before the other keep their order. -/
def sortBy {α : Type} (before : α → α → Bool) (l : List α) : List α :=
  l.reverse.foldl (fun acc a => insertBy before a acc) []

/-- The start rank of the genset in a slot, and the slot below it: the order of the crank wait list,
the permit and start selection, lower rank first and lower slot among equals (R81, R92, R98). -/
def State.rankKey (s : State) (i : SlotIx) : Nat :=
  ((s.genset? i).elim 0 Genset.rank) * 64 + i

end Sys2Proof.Machine
end

