-- ==== Sys2Proof/Machine/Flags.lean ====
section
/-! DEFINITION. The flags the host reads: the pending notices with NOTIFY (section 10.4), and the
shortfall flags of the Shed Unit (R109). -/

namespace Sys2Proof.Machine

/-! ### Notice kinds, by their place in the table of section 10.4 -/

def NoticeKind.startDemand : NoticeIx := 0
def NoticeKind.gensetOnline : NoticeIx := 1
def NoticeKind.gensetTrip : NoticeIx := 2
def NoticeKind.gensetLockout : NoticeIx := 3
def NoticeKind.breaker : NoticeIx := 4
def NoticeKind.shedExecuted : NoticeIx := 5
def NoticeKind.shedShortfall : NoticeIx := 6
def NoticeKind.stageRaised : NoticeIx := 7
def NoticeKind.breakerFail : NoticeIx := 8
def NoticeKind.externalTrip : NoticeIx := 9
def NoticeKind.darkDeclared : NoticeIx := 10
def NoticeKind.zcLost : NoticeIx := 11
def NoticeKind.liveDeclared : NoticeIx := 12
def NoticeKind.planStepFailed : NoticeIx := 13
def NoticeKind.planComplete : NoticeIx := 14
def NoticeKind.stationUnreachable : NoticeIx := 15
def NoticeKind.pollOverrun : NoticeIx := 16
def NoticeKind.holdSaturated : NoticeIx := 17
def NoticeKind.retireDone : NoticeIx := 18
def NoticeKind.saveDone : NoticeIx := 19
def NoticeKind.settingsLost : NoticeIx := 20
def NoticeKind.restarted : NoticeIx := 21

/-- Whether a pending kind has a level at or above the threshold (R180). -/
def NoticeUnit.drives (u : NoticeUnit) (threshold : Nat) : Bool :=
  (List.finRange 22).any (fun k => u.held[k].isSome && decide (threshold ≤ u.levels[k]))

/-- Judge NOTIFY anew (R180). -/
def State.judge (s : State) : State :=
  { s with ntu := { s.ntu with notifyLow := s.ntu.drives (s.param .notifyThreshold) } }

/-- A pending notice after one more raise: the count is held at 255 and the detail is that of the
latest raise (R179). -/
def Notice.raised (old : Option Notice) (detail : Option Nat) : Notice :=
  match old with
  | none => { detail := detail, count := 1 }
  | some n => { detail := detail, count := min 255 (n.count + 1) }

/-- A block raises a notice (R179, R180). -/
def State.raise (k : NoticeIx) (detail : Option Nat) (s : State) : State :=
  { s with
    ntu := { s.ntu with held := s.ntu.held.set k (some (Notice.raised s.ntu.held[k] detail)) } }.judge

/-- A notice whose detail is a slot (section 10.4). -/
def State.raiseSlot (k : NoticeIx) (i : SlotIx) (s : State) : State := s.raise k (some i)

/-- Set or clear a stage's shortfall flag; its passage from clear to set raises SHED_SHORTFALL with
the stage number (R109). -/
def State.setStageShort (k : StageIx) (short : Bool) (s : State) : State :=
  let was := s.shu.stageShort[k]
  let s := { s with shu := { s.shu with stageShort := s.shu.stageShort.set k short } }
  if short && !was then s.raise NoticeKind.shedShortfall (some (k + 1)) else s

/-- Set or clear the shortfall flag of reserve shedding; its passage from clear to set raises
SHED_SHORTFALL with no slot (R109). -/
def State.setReserveShort (short : Bool) (s : State) : State :=
  let was := s.shu.reserveShort
  let s := { s with shu := { s.shu with reserveShort := short } }
  if short && !was then s.raise NoticeKind.shedShortfall none else s

end Sys2Proof.Machine
end

