-- ==== Sys2Proof/Machine/Operands.lean ====
section
/-! DEFINITION. The encodings of R186: numbers as bytes, enumerations as codes, the bodies of
responses, and the two check values (CRC-16 of the field frame, CRC-32 of the settings image). -/

namespace Sys2Proof.Machine

/-! ### Numbers as bytes, little-endian (R186) -/

def u8 (n : Nat) : List Byte := [BitVec.ofNat 8 n]

def u16 (n : Nat) : List Byte := [BitVec.ofNat 8 n, BitVec.ofNat 8 (n / 256)]

def u32 (n : Nat) : List Byte :=
  [BitVec.ofNat 8 n, BitVec.ofNat 8 (n / 256), BitVec.ofNat 8 (n / 65536),
   BitVec.ofNat 8 (n / 16777216)]

/-- A signed 32-bit number in two's complement. -/
def i32 (v : Int) : List Byte := u32 (BitVec.ofInt 32 v).toNat

def flag (b : Bool) : List Byte := u8 (if b then 1 else 0)

/-- The number two bytes give, the first the lower. -/
def ofU16 (a b : Byte) : Nat := a.toNat + 256 * b.toNat

/-- The number four bytes give, read as a signed 32-bit number. -/
def ofI32 (a b c d : Byte) : Int := (d ++ c ++ b ++ a : BitVec 32).toInt

/-- The number two bytes give, read as a signed 16-bit number. -/
def ofI16 (a b : Byte) : Int := (b ++ a : BitVec 16).toInt

/-- An absent kW value is FFFFh. -/
def kwOpt : Option Nat → List Byte
  | some v => u16 v
  | none => u16 0xFFFF

/-- An absent line is FFh. -/
def lineOpt : Option LineIx → List Byte
  | some l => u8 l
  | none => u8 0xFF

/-- A handle is slot plus 64 times generation (R186). -/
def handleWord (h : Handle) : Nat := h.slot + 64 * h.gen

/-- The handle a 16-bit value gives. -/
def handleOfWord (w : Nat) : Handle := { slot := w % 64, gen := w / 64 }

/-! ### Enumerations as codes, from 1 in the order the manual first lists them (R186) -/

def Kind.code : Kind → Nat
  | .genset => 1 | .pv => 2 | .feeder => 3

def Kind.ofCode : Nat → Option Kind
  | 1 => some .genset | 2 => some .pv | 3 => some .feeder | _ => none

def Lifecycle.code : Lifecycle → Nat
  | .provisional => 1 | .active => 2 | .retiring => 3

def GensetState.code : GensetState → Nat
  | .stopped => 1 | .cranking => 2 | .resting => 3 | .runUp => 4 | .syncing => 5 | .online => 6
  | .unloading => 7 | .cooldown => 8 | .lockout => 9

def FeederState.code : FeederState → Nat
  | .closed => 1 | .tripPending => 2 | .opening => 3 | .tripped => 4 | .closePending => 5
  | .closing => 6 | .breakerFail => 7

def TripCause.code : TripCause → Nat
  | .shedReserve => 1 | .shedStage k => 2 + k | .dark => 6 | .external => 7 | .host => 8
  | .unknown => 9

def StationClass.code : StationClass → Nat
  | .gensetCtrl => 1 | .pvCtrl => 2 | .feederMeter => 3

def StationClass.ofCode : Nat → Option StationClass
  | 1 => some .gensetCtrl | 2 => some .pvCtrl | 3 => some .feederMeter | _ => none

def Access.code : Access → Nat
  | .reportOnly => 1 | .commandOnly => 2 | .reportCommand => 3

def Access.ofCode : Nat → Option Access
  | 1 => some .reportOnly | 2 => some .commandOnly | 3 => some .reportCommand | _ => none

def Reach.code : Reach → Nat
  | .unknown => 1 | .reachable => 2 | .suspect => 3 | .unreachable => 4

def LineFunction.code : LineFunction → Nat
  | .unused => 1 | .tripOut => 2 | .closeOut => 3 | .statusIn => 4 | .runOut => 5 | .readyIn => 6
  | .genBreakerIn => 7 | .permitOut => 8 | .zeroCrossIn => 9

def LineFunction.ofCode : Nat → Option LineFunction
  | 1 => some .unused | 2 => some .tripOut | 3 => some .closeOut | 4 => some .statusIn
  | 5 => some .runOut | 6 => some .readyIn | 7 => some .genBreakerIn | 8 => some .permitOut
  | 9 => some .zeroCrossIn | _ => none

def Polarity.code : Polarity → Nat
  | .activeHigh => 1 | .activeLow => 2

def Polarity.ofCode : Nat → Option Polarity
  | 1 => some .activeHigh | 2 => some .activeLow | _ => none

def GridState.code : GridState → Nat
  | .survey => 1 | .normal => 2 | .short => 3 | .emergency => 4 | .dark => 5 | .restoring => 6

def PlanState.code : PlanState → Nat
  | .idle => 1 | .running => 2 | .paused => 3 | .complete => 4 | .failed => 5

def StepStatus.code : StepStatus → Nat
  | .pending => 1 | .active => 2 | .done => 3 | .failed => 4 | .skipped => 5

def OnFailure.code : OnFailure → Nat
  | .abort => 1 | .skip => 2

def OnFailure.ofCode : Nat → Option OnFailure
  | 1 => some .abort | 2 => some .skip | _ => none

def StepAction.code : StepAction → Nat
  | .startGenset _ _ => 1 | .closeFeeder _ => 2 | .releasePv _ _ => 3 | .settle _ => 4
  | .gateReserve _ => 5

/-! ### Response statuses (section 10.2) -/

/-- The statuses of section 10.2. -/
inductive Status where
  | ok | accepted | notReady | malformed | unknownRequest | badHandle | badKind | tableFull
  | duplicateTag | outOfRange | fieldLocked | lineInUse | stationInUse | planReference
  | planRunning | badPlan | busy | needed | state
deriving DecidableEq, Repr

def Status.code : Status → Nat
  | .ok => 0x00 | .accepted => 0x01 | .notReady => 0x02 | .malformed => 0x03
  | .unknownRequest => 0x04 | .badHandle => 0x05 | .badKind => 0x06 | .tableFull => 0x07
  | .duplicateTag => 0x08 | .outOfRange => 0x09 | .fieldLocked => 0x0A | .lineInUse => 0x0B
  | .stationInUse => 0x0C | .planReference => 0x0D | .planRunning => 0x0E | .badPlan => 0x0F
  | .busy => 0x10 | .needed => 0x11 | .state => 0x12

/-- A response frame: total length, status, echoed request kind, body (R186). -/
def responseFrame (status : Status) (kind : Nat) (body : List Byte) : List Byte :=
  u8 (3 + body.length) ++ u8 status.code ++ u8 kind ++ body

/-! ### Bodies of responses (R186)

`free` gives the bytes the layout holds and the manual gives no value for (assumption log 5); its
argument is the place of the byte in the body. -/

/-- Free bytes of a body from place `p` on. -/
def freeBytes (free : Nat → Byte) (p n : Nat) : List Byte := (List.range n).map (fun i => free (p + i))

/-- A present flag and the 32-bit time at place `p`, whose bytes are open when it is absent. -/
def timeOpt (free : Nat → Byte) (p : Nat) : Option Time → List Byte
  | some t => u8 1 ++ u32 t.toNat
  | none => u8 0 ++ freeBytes free p 4

/-- The part of the record body that stands for the kind, from offset 14 on. -/
def bodyBytes (free : Nat → Byte) : Body → List Byte
  | .genset g =>
    u16 g.rated ++ u16 g.minLoad ++ u8 g.rank ++ flag g.mustRun ++ u8 g.runLine ++ u8 g.readyLine ++
    u8 g.breakerLine ++ lineOpt g.permitLine ++ u8 g.state.code ++ u8 g.attempts ++ u8 g.trips ++
    flag g.fault ++ timeOpt free 29 g.onlineSince ++ kwOpt g.output
  | .pv p =>
    u16 p.rated ++ u8 p.cls ++ kwOpt p.ramp ++ u16 p.setpoint ++ kwOpt p.lastSent ++
    kwOpt p.lastAck ++ flag p.unconfirmed ++ kwOpt p.planCap ++ kwOpt p.output ++
    kwOpt p.available ++ flag p.limited
  | .feeder f =>
    u8 f.cls ++ flag f.sheddable ++ u16 f.nominal ++ u8 f.tripLine ++ lineOpt f.closeLine ++
    lineOpt f.statusLine ++ u8 f.state.code ++ u8 f.hold ++ u8 (f.cause.elim 0 TripCause.code) ++
    kwOpt f.measured ++ u32 f.lastChange.toNat

/-- The record body of QUERY. -/
def recordBytes (free : Nat → Byte) (s : State) (i : SlotIx) (r : Record) : List Byte :=
  u16 (handleWord (s.handleOf i)) ++ u8 r.body.kind.code ++ u8 r.lifecycle.code ++ u16 r.tag ++
  (match r.binding with
    | some b => u8 b.address ++ u8 b.unit
    | none => u8 0 ++ freeBytes free 7 1) ++
  u8 (if s.isFresh r then 1 else 2) ++ timeOpt free 10 r.lastReport ++ bodyBytes free r.body

/-- An entry of the LIST response. -/
def listEntryBytes (s : State) (i : SlotIx) (r : Record) : List Byte :=
  u16 (handleWord (s.handleOf i)) ++ u8 r.body.kind.code ++ u8 r.lifecycle.code ++ u16 r.tag

/-- The body of STATION_QUERY. -/
def stationBytes (free : Nat → Byte) (index : Nat) : Option Station → List Byte
  | some x =>
    u8 1 ++ u8 x.address ++ u8 index ++ u8 x.cls.code ++ u8 x.units ++ u8 x.access.code ++
    u8 x.allowance ++ u8 x.gap ++ u8 x.misses ++ u8 x.reach.code ++ flag x.due
  | none => u8 0 ++ freeBytes free 1 10

/-- The role a line serves, with the slot it serves (R7): run, ready, breaker, permit, trip, close,
status are coded from 1. -/
def State.lineRole (s : State) (l : LineIx) : Option (SlotIx × Nat) :=
  allSlots.findSome? (fun i => match s.record? i with
    | some { body := .genset g, .. } =>
      if g.runLine = l then some (i, 1) else if g.readyLine = l then some (i, 2)
      else if g.breakerLine = l then some (i, 3)
      else if g.permitLine = some l then some (i, 4) else none
    | some { body := .feeder f, .. } =>
      if f.tripLine = l then some (i, 5) else if f.closeLine = some l then some (i, 6)
      else if f.statusLine = some l then some (i, 7) else none
    | _ => none)

/-- Whether a function makes a line an input, an output, or neither (section 9.3). -/
def LineFunction.isInput : LineFunction → Bool
  | .statusIn | .readyIn | .genBreakerIn | .zeroCrossIn => true
  | _ => false

def LineFunction.isOutput : LineFunction → Bool
  | .tripOut | .closeOut | .runOut | .permitOut => true
  | _ => false

/-- The body of LINE_QUERY (R174). -/
def lineBytes (free : Nat → Byte) (s : State) (l : LineIx) : List Byte :=
  let x := s.lines[l]
  u8 x.function.code ++ u8 x.polarity.code ++ u16 x.filter ++
  (match s.lineRole l with
    | some (i, role) => u16 (handleWord (s.handleOf i)) ++ u8 role
    | none => u16 0 ++ u8 0) ++
  (if x.function.isInput then flag x.level ++ flag x.filtered
    else if x.function.isOutput then u8 0xFF ++ u8 0xFF
    else freeBytes free 7 2) ++
  timeOpt free 10 (if x.function.isInput && x.function != .zeroCrossIn then x.lastChange else none) ++
  (if x.function.isOutput then flag x.driven
    else if x.function.isInput then u8 0xFF else freeBytes free 14 1) ++
  (match x.pulse, x.window with
    | some e, _ => u8 1 ++ freeBytes free 16 4 ++ u32 e.toNat
    | none, some w => u8 (if w.started then 3 else 2) ++ u32 w.start.toNat ++ u32 w.stop.toNat
    | none, none => u8 0 ++ freeBytes free 16 8)

/-- The target of a step. -/
def StepAction.target : StepAction → Option Handle
  | .startGenset h _ | .closeFeeder h | .releasePv h _ => some h
  | .settle _ | .gateReserve _ => none

/-- A step entry with its status; `p` is the place of the entry in the body. The entry of an empty position
has kind 0, no target, whose handle is 0, and the status of the position; its value, timeout and on-failure
are open (R186; assumption log 5). -/
def stepBytes (free : Nat → Byte) (p : Nat) (position : PosIx) (st : Option PlanStep)
    (status : StepStatus) : List Byte :=
  match st with
  | none => u8 position ++ u8 0 ++ u16 0 ++ freeBytes free (p + 4) 5 ++ u8 status.code
  | some x =>
    u8 position ++ u8 x.action.code ++ u16 (x.action.target.elim 0 handleWord) ++
    (match x.action with
      | .startGenset _ d => u16 (if d then 1 else 0)
      | .closeFeeder _ => freeBytes free (p + 4) 2
      | .releasePv _ c => u16 c
      | .settle ms => u16 ms
      | .gateReserve kw => u16 kw) ++
    u16 x.timeout ++ u8 x.onFailure.code ++ u8 status.code

/-! ### Check values -/

/-- One byte into the CRC-16 register: polynomial 1021h, most significant bit first (R186). -/
def crc16Byte (r : BitVec 16) (b : Byte) : BitVec 16 :=
  (List.range 8).foldl (fun r _ => if r.msb then (r <<< 1) ^^^ 0x1021 else r <<< 1)
    (r ^^^ (b.zeroExtend 16 <<< 8))

/-- The CRC-16 of the field frame: register preset FFFFh, no reflection, no final XOR (R186). -/
def crc16 (bytes : List Byte) : BitVec 16 := bytes.foldl crc16Byte 0xFFFF

/-- One byte into the CRC-32 register, least significant bit first, the register held reflected
(polynomial 04C11DB7h reflected is EDB88320h) (R184). -/
def crc32Byte (r : BitVec 32) (b : Byte) : BitVec 32 :=
  (List.range 8).foldl (fun r _ => if r.getLsbD 0 then (r >>> 1) ^^^ 0xEDB88320 else r >>> 1)
    (r ^^^ b.zeroExtend 32)

/-- The CRC-32 of the settings image: register preset FFFFFFFFh, final value XORed with FFFFFFFFh
(R184). -/
def crc32 (bytes : List Byte) : BitVec 32 := bytes.foldl crc32Byte 0xFFFFFFFF ^^^ 0xFFFFFFFF

/-! ### Field frames (R186) -/

/-- A field frame: sync byte, address, kind, body length, body, CRC-16 high byte first. -/
def fieldFrame (address kind : Nat) (body : List Byte) : List Byte :=
  let covered := u8 address ++ u8 kind ++ u8 body.length ++ body
  let c := crc16 covered
  u8 0xA5 ++ covered ++ [(c >>> 8).truncate 8, c.truncate 8]

/-- The frame a transaction transmits (section 8.3). -/
def Errand.frame (address : Nat) : Errand → List Byte
  | .poll _ => fieldFrame address 0x01 []
  | .setpoint _ _ unit value => fieldFrame address 0x02 (u8 unit ++ u16 value)
  | .unload _ _ unit => fieldFrame address 0x03 (u8 unit)

end Sys2Proof.Machine
end

