-- ==== Sys2Proof/Machine/Port.lean ====
section
/-! DEFINITION. What every host request shares: its code, the hand-over from the Host Port to the
request's owner, and the response (sections 10.1 and 10.2). -/

namespace Sys2Proof.Machine

/-- The code of a host request (section 10.2); 0 for a step that is no host request. -/
def requestCode : Instr → Nat
  | .nop => 0x01
  | .register _ _ => 0x10 | .amend _ _ => 0x11 | .query _ => 0x12 | .lookupTag _ => 0x13
  | .list _ _ => 0x14 | .retire _ => 0x15
  | .stationAdd _ _ _ _ _ _ => 0x20 | .stationAmend _ _ => 0x21 | .stationDrop _ => 0x22
  | .stationQuery _ _ => 0x23
  | .lineConfigure _ _ _ _ => 0x28 | .lineQuery _ => 0x29
  | .setParameter _ _ => 0x30 | .getParameter _ => 0x31 | .gridStatus => 0x32
  | .start _ => 0x40 | .stop _ => 0x41 | .clearLockout _ => 0x42
  | .holdAdd _ => 0x50 | .holdDrop _ => 0x51 | .trip _ => 0x52 | .reclose _ => 0x53
  | .clearFault _ => 0x54
  | .planWriteStep _ _ _ _ _ _ => 0x60 | .planSet _ _ => 0x61 | .planRun => 0x62
  | .planAbort => 0x63 | .planQuery _ => 0x64
  | .readNotices => 0x70 | .setNoticeLevels _ => 0x71
  | .save => 0x78 | .restart => 0x79
  | _ => 0

/-- The free bytes of the next response (assumption log 5). -/
def State.free (s : State) : Nat → Byte := Config.freeByte s.freeCount

/-- The owner's response becomes pending and the request is no longer in progress (R176, R177). -/
def State.respond (c : Instr) (status : Status) (body : List Byte) (s : State) : State :=
  { s with
    port := { s.port with response := some (responseFrame status (requestCode c) body),
                          request := none },
    freeCount := s.freeCount + 1 }

/-- A refusal, which carries no body (R177). -/
def State.refuse (c : Instr) (status : Status) (s : State) : State := s.respond c status []

/-- The owner of a request takes it. The request in progress is the one taken; with none in progress
the command stands for the transaction that carries the request as well (assumption log 7). A request
other than the one in progress is not the one HPT hands over, and has no effect. -/
def State.serve (c : Instr) (f : State → State) (s : State) : State :=
  s.awake (fun s => match s.port.request with
    | some c' => if c' = c then f s else s
    | none => f s)

/-- A request that names a record of one kind: refused with BAD_HANDLE when the handle does not
resolve and with BAD_KIND when the record is of another kind (R3). -/
def State.withKind (c : Instr) (h : Handle) (k : Kind) (f : SlotIx → State → State) (s : State) :
    State :=
  match s.resolve h with
  | none => s.refuse c .badHandle
  | some i =>
    if (s.record? i).any (fun r => r.body.kind == k) then f i s else s.refuse c .badKind

end Sys2Proof.Machine
end

