-- ==== Sys2Proof/WellFormed.lean ====
section
/-! DEFINITION. When the operands of a command fit the widths its request body gives them (R186). The
checks of the owners (ranges, states) are no part of it: an owner refuses by a response. -/

namespace Sys2Proof

/-- A number of one byte. -/
def isU8 (n : Nat) : Bool := decide (n < 256)

/-- A number of two bytes. -/
def isU16 (n : Nat) : Bool := decide (n < 65536)

/-- A handle of sixteen bits: a slot of six bits and a generation of ten (R186). -/
def Handle.fits (h : Handle) : Bool := decide (h.slot < 64 ∧ h.gen < 1024)

/-- A handle that is present: its 16-bit value is not 0 (R186). -/
def Handle.present (h : Handle) : Bool := h.fits && decide (h.slot ≠ 0 ∨ h.gen ≠ 0)

/-- Whether a list of entries names no code twice (R177). -/
def noneTwice : List (Nat × Nat) → Bool
  | [] => true
  | p :: rest => !rest.any (fun q => q.1 == p.1) && noneTwice rest

/-- A list of entries with values of a width: at least one, at most `most`, and no code twice (R177). -/
def entriesFit (width most : Nat) (l : List (Nat × Nat)) : Bool :=
  l.all (fun p => isU8 p.1 && decide (p.2 < width)) && !l.isEmpty && decide (l.length ≤ most) && noneTwice l

/-- Whether the codes of the entries of STATION_AMEND are 1 to 5 (R186). -/
def amendCodes (l : List (Nat × Nat)) : Bool := l.all (fun p => decide (1 ≤ p.1 ∧ p.1 ≤ 5))

/-- Whether the time before a pin changes is below the half of the range of time base S, within which two
values of S compare (R160). -/
def shortSpan (counts : Nat) : Bool := decide (counts < 2 ^ 31 * 10000)

/-- Whether a command's operands fit the layout of its request. A command that is no host request
carries operands of its own types, which fit; the time before a pin change is bounded. -/
def Instr.wellFormed : Instr → Bool
  | .register kind fields => isU8 kind && entriesFit 65536 84 fields
  | .amend h fields => h.fits && entriesFit 65536 83 fields
  | .query h => h.fits
  | .lookupTag tag => isU16 tag
  | .list first kind => isU8 first && isU8 kind
  | .retire h => h.fits
  | .stationAdd address cls units access allowance gap =>
    isU8 address && isU8 cls && isU8 units && isU8 access && isU8 allowance && isU8 gap
  | .stationAmend address changes => isU8 address && entriesFit 256 126 changes && amendCodes changes
  | .stationDrop address => isU8 address
  | .stationQuery address index => isU8 address && isU8 index
  | .lineConfigure line function polarity filter =>
    isU8 line && isU8 function && isU8 polarity && filter.all (fun f => decide (f < 65535))
  | .lineQuery line => isU8 line
  | .setParameter identifier value =>
    isU8 identifier && decide (-(2 ^ 31) ≤ value ∧ value < 2 ^ 31)
  | .getParameter identifier => isU8 identifier
  | .start h => h.fits
  | .stop h => h.fits
  | .clearLockout h => h.fits
  | .trip h => h.fits
  | .reclose h => h.fits
  | .clearFault h => h.fits
  | .planWriteStep position kind target value timeout onFailure =>
    isU8 position && isU8 kind && target.all Handle.present && isU16 value && isU16 timeout &&
    isU8 onFailure
  | .planSet length autoRun => isU8 length && isU8 autoRun
  | .planQuery first => isU8 first
  | .setNoticeLevels levels => entriesFit 256 22 levels
  | .powerOnReset => true
  | .resetInputAsserted => true
  | .resetInputReleased => true
  | .spiTransaction _ => true
  | .nop => true
  | .gridStatus => true
  | .holdAdd _ => true
  | .holdDrop _ => true
  | .planRun => true
  | .planAbort => true
  | .readNotices => true
  | .save => true
  | .saveWriteComplete => true
  | .restart => true
  | .evalPeriodExpiry => true
  | .reevaluationRequest => true
  | .stopDelayExpiry => true
  | .startDemandHandover => true
  | .shuEvaluationHandover => true
  | .rsqEvaluationHandover => true
  | .pollCycleExpiry => true
  | .crankTimeExpiry _ => true
  | .crankRestExpiry _ => true
  | .warmTimeExpiry _ => true
  | .syncTimeExpiry _ => true
  | .unloadTimeExpiry _ => true
  | .coolTimeExpiry _ => true
  | .ufStageDelayExpiry _ => true
  | .gridStageRaise => true
  | .armedSetFiring => true
  | .planPause => true
  | .rsqStageClear => true
  | .darkTimerExpiry => true
  | .liveHoldExpiry => true
  | .enterDark => true
  | .shuGridStateChange => true
  | .gsqGridStateChange => true
  | .rsqGridStateChange => true
  | .rsqDarkDeclaration => true
  | .gridLiveDeclaration => true
  | .gsqLiveDeclaration => true
  | .rsqLiveDeclaration => true
  | .planStartReport => true
  | .planEndReport => true
  | .rsqGensetOnline => true
  | .rsqGensetLockout => true
  | .rsqFeederClosed => true
  | .rsqFeederBreakerFail => true
  | .stepTimeoutExpiry => true
  | .stepSettleExpiry => true
  | .resumeWaitExpiry => true
  | .darkSettleExpiry => true
  | .staggerExpiry => true
  | .recloseDelayExpiry => true
  | .breakerConfirmExpiry _ => true
  | .tripPulseEnd _ => true
  | .closeWindowStart _ => true
  | .closeWindowEnd _ => true
  | .inputPinChange after _ _ => shortSpan after
  | .inputFilterExpiry _ => true
  | .genBreakerChange => true
  | .gensetReadyChange => true
  | .bmnBreakerChange => true
  | .feederStatusChange => true
  | .zeroCrossPinChange after _ => shortSpan after
  | .zeroCrossFilterExpiry => true
  | .frameTransmitted => true
  | .turnaroundGapEnd => true
  | .replyAllowanceExpiry => true
  | .fieldFrameReceived _ => true
  | .frameSilenceTimeout => true
  | .rsqFrequencyUpdate => true
  | .frameFirstByteReceived => true

end Sys2Proof
end

