-- ==== Sys2Proof/Decode.lean ====
section
/-! DEFINITION. The host request frames of R177 and R186: reading a request from the bytes clocked in,
and writing one. No row of the opcode table carries bits, so `decodeTableWord` reads none. -/

namespace Sys2Proof

open Machine

/-- The command a word spells by the bits of the opcode table. No row gives any (assumption log 27). -/
def decodeTableWord (_nbits _w : Nat) : Option Instr := none

/-! ### Reading a request (R177) -/

/-- Field entries of three bytes: a code and a 16-bit value (R186). Absent when the last is not whole. -/
def readFields : List Byte → Option (List (Nat × Nat))
  | [] => some []
  | c :: lo :: hi :: rest => (readFields rest).map (fun l => (c.toNat, ofU16 lo hi) :: l)
  | _ => none

/-- Entries of two bytes: a code and an 8-bit value (R186). Absent when the last is not whole. -/
def readPairs : List Byte → Option (List (Nat × Nat))
  | [] => some []
  | c :: v :: rest => (readPairs rest).map (fun l => (c.toNat, v.toNat) :: l)
  | _ => none

/-- A list of entries holds at least one and names no code twice (R177). -/
def checkEntries (l : Option (List (Nat × Nat))) : Option (List (Nat × Nat)) :=
  l.filter (fun l => !l.isEmpty && noneTwice l)

/-- The handle two bytes give (R186). -/
def readHandle (lo hi : Byte) : Handle := handleOfWord (ofU16 lo hi)

/-- The target handle of a step entry, absent for 0 (R186). -/
def readTarget (lo hi : Byte) : Option Handle :=
  if ofU16 lo hi = 0 then none else some (readHandle lo hi)

/-- The filter time of LINE_CONFIGURE, not given for FFFFh (R186). -/
def readFilter (lo hi : Byte) : Option Nat := if ofU16 lo hi = 0xFFFF then none else some (ofU16 lo hi)

/-- The request a kind and a body give, absent when the body does not fit the layout of its kind (R177,
R186). An empty body is carried as one pad byte. -/
def readBody (kind : Nat) (body : List Byte) : Option Instr :=
  match kind, body with
  | 0x01, [_] => some .nop
  | 0x10, k :: rest => (checkEntries (readFields rest)).map (fun l => .register k.toNat l)
  | 0x11, lo :: hi :: rest => (checkEntries (readFields rest)).map (fun l => .amend (readHandle lo hi) l)
  | 0x12, [lo, hi] => some (.query (readHandle lo hi))
  | 0x13, [lo, hi] => some (.lookupTag (ofU16 lo hi))
  | 0x14, [a, k] => some (.list a.toNat k.toNat)
  | 0x15, [lo, hi] => some (.retire (readHandle lo hi))
  | 0x20, [a, b, c, d, e, f] => some (.stationAdd a.toNat b.toNat c.toNat d.toNat e.toNat f.toNat)
  | 0x21, a :: rest =>
    ((checkEntries (readPairs rest)).filter amendCodes).map (fun l => .stationAmend a.toNat l)
  | 0x22, [a] => some (.stationDrop a.toNat)
  | 0x23, [a, b] => some (.stationQuery a.toNat b.toNat)
  | 0x28, [l, f, p, lo, hi] => some (.lineConfigure l.toNat f.toNat p.toNat (readFilter lo hi))
  | 0x29, [l] => some (.lineQuery l.toNat)
  | 0x30, [n, a, b, c, d] => some (.setParameter n.toNat (ofI32 a b c d))
  | 0x31, [n] => some (.getParameter n.toNat)
  | 0x32, [_] => some .gridStatus
  | 0x40, [lo, hi] => some (.start (readHandle lo hi))
  | 0x41, [lo, hi] => some (.stop (readHandle lo hi))
  | 0x42, [lo, hi] => some (.clearLockout (readHandle lo hi))
  | 0x50, [a, b, c, d, e, f, g, h] => some (.holdAdd (h ++ g ++ f ++ e ++ d ++ c ++ b ++ a))
  | 0x51, [a, b, c, d, e, f, g, h] => some (.holdDrop (h ++ g ++ f ++ e ++ d ++ c ++ b ++ a))
  | 0x52, [lo, hi] => some (.trip (readHandle lo hi))
  | 0x53, [lo, hi] => some (.reclose (readHandle lo hi))
  | 0x54, [lo, hi] => some (.clearFault (readHandle lo hi))
  | 0x60, [p, k, tl, th, vl, vh, ol, oh, f] =>
    some (.planWriteStep p.toNat k.toNat (readTarget tl th) (ofU16 vl vh) (ofU16 ol oh) f.toNat)
  | 0x61, [l, a] => some (.planSet l.toNat a.toNat)
  | 0x62, [_] => some .planRun
  | 0x63, [_] => some .planAbort
  | 0x64, [p] => some (.planQuery p.toNat)
  | 0x70, [_] => some .readNotices
  | 0x71, rest =>
    ((checkEntries (readPairs rest)).filter (fun l => decide (l.length ≤ 22))).map .setNoticeLevels
  | 0x78, [_] => some .save
  | 0x79, [_] => some .restart
  | _, _ => none

/-- The request codes of section 10.2. -/
def requestCodes : List Nat :=
  [0x01, 0x10, 0x11, 0x12, 0x13, 0x14, 0x15, 0x20, 0x21, 0x22, 0x23, 0x28, 0x29, 0x30, 0x31, 0x32,
   0x40, 0x41, 0x42, 0x50, 0x51, 0x52, 0x53, 0x54, 0x60, 0x61, 0x62, 0x63, 0x64, 0x70, 0x71, 0x78, 0x79]

/-- What the bytes clocked in carry (R175, R177). -/
inductive Incoming where
  /-- The transaction carries no request: its first byte is 0, or no byte was clocked. -/
  | nothing
  /-- A request refused by HPT, with the status and the kind byte, absent when none was clocked. -/
  | refused (status : Status) (kind : Option Nat)
  /-- A request handed to its owner. -/
  | request (c : Instr)
deriving DecidableEq, Repr

/-- The check of the length, the kind and the body of an incoming request, in that order (R177). Bytes
beyond the length are ignored, but for the kind that the refusal of a frame of length 1 echoes (assumption
log 46). A body begins at byte 2 (assumption log 58). -/
def readFrame (clocked : List Byte) : Incoming :=
  match clocked with
  | [] => .nothing
  | n :: rest =>
    if n = 0 then .nothing
    else if n.toNat < 3 ∨ clocked.length < n.toNat then .refused .malformed (rest.head?.map BitVec.toNat)
    else
      match rest with
      | [] => .refused .malformed none
      | k :: more =>
        if k.toNat ∉ requestCodes then .refused .unknownRequest (some k.toNat)
        else
          match readBody k.toNat (more.take (n.toNat - 2)) with
          | some c => .request c
          | none => .refused .malformed (some k.toNat)

/-! ### Writing a request (R186) -/

/-- A handle as two bytes. -/
def writeHandle (h : Handle) : List Byte := u16 (handleWord h)

/-- Field entries of three bytes each. -/
def writeFields (l : List (Nat × Nat)) : List Byte := l.flatMap (fun p => u8 p.1 ++ u16 p.2)

/-- Entries of two bytes each. -/
def writePairs (l : List (Nat × Nat)) : List Byte := l.flatMap (fun p => u8 p.1 ++ u8 p.2)

/-- The mask of HOLD_ADD and HOLD_DROP as eight bytes, the lowest slots first. -/
def writeMask (m : BitVec 64) : List Byte := (List.range 8).map (fun i => (m >>> (8 * i)).truncate 8)

/-- The body of a host request; empty for a request without one and for a command that is no request. -/
def writeBody : Instr → List Byte
  | .register kind fields => u8 kind ++ writeFields fields
  | .amend h fields => writeHandle h ++ writeFields fields
  | .query h => writeHandle h
  | .lookupTag tag => u16 tag
  | .list first kind => u8 first ++ u8 kind
  | .retire h => writeHandle h
  | .stationAdd a b c d e f => u8 a ++ u8 b ++ u8 c ++ u8 d ++ u8 e ++ u8 f
  | .stationAmend address changes => u8 address ++ writePairs changes
  | .stationDrop address => u8 address
  | .stationQuery address index => u8 address ++ u8 index
  | .lineConfigure line function polarity filter =>
    u8 line ++ u8 function ++ u8 polarity ++ u16 (filter.getD 0xFFFF)
  | .lineQuery line => u8 line
  | .setParameter identifier value => u8 identifier ++ i32 value
  | .getParameter identifier => u8 identifier
  | .start h => writeHandle h
  | .stop h => writeHandle h
  | .clearLockout h => writeHandle h
  | .holdAdd mask => writeMask mask
  | .holdDrop mask => writeMask mask
  | .trip h => writeHandle h
  | .reclose h => writeHandle h
  | .clearFault h => writeHandle h
  | .planWriteStep position kind target value timeout onFailure =>
    u8 position ++ u8 kind ++ u16 (target.elim 0 handleWord) ++ u16 value ++ u16 timeout ++ u8 onFailure
  | .planSet length autoRun => u8 length ++ u8 autoRun
  | .planQuery first => u8 first
  | .setNoticeLevels levels => writePairs levels
  | _ => []

/-- The frame of a host request: length, kind and body, an empty body carried as one pad byte (R186). The
body begins at byte 2 (assumption log 58). -/
def writeFrame (c : Instr) : List Byte :=
  let body := writeBody c
  let body := if body.isEmpty then [0] else body
  u8 (2 + body.length) ++ u8 (requestCode c) ++ body

end Sys2Proof
end

