-- ==== Sys2Proof/Machine/Lines.lean ====
section
/-! DEFINITION. The Line Unit: input filters and the delivery of input changes, trip pulses and close
windows, and the line requests LINE_CONFIGURE and LINE_QUERY's view (chapter 9). -/

namespace Sys2Proof.Machine

/-! ### Trip pulses and close windows (R169 to R171) -/

/-- A trip request ends a close window of the feeder at once, the close line driven inactive (R171). -/
def State.endWindowForTrip (f : Feeder) (s : State) : State :=
  match f.closeLine with
  | some c => if s.lines[c].window.isSome then
      s.modLine c (fun x => { x with driven := false, window := none }) else s
  | none => s

/-- A trip request: the trip line is driven active and a pulse begins, or has its end time set anew
(R169, R171). -/
def State.tripRequest (f : Feeder) (s : State) : State :=
  let s := s.endWindowForTrip f
  s.modLine f.tripLine (fun x =>
    { x with driven := true, pulse := some (s.timeS + BitVec.ofNat 32 (s.param .tripWidth)) })

/-- Whether LNU refuses a close request: the feeder's trip pulse is active, or a close window of it is
pending or active (R170). -/
def State.closeRefused (f : Feeder) (s : State) : Bool :=
  s.lines[f.tripLine].pulse.isSome ||
  match f.closeLine with
  | some c => s.lines[c].window.isSome
  | none => true

/-- A close window opens, pending until its start (R170). -/
def State.openWindow (c : LineIx) (s : State) : State :=
  let start := s.timeS + BitVec.ofNat 32 (s.param .closeDelay)
  s.modLine c (fun x =>
    { x with window := some { start := start,
                              stop := start + BitVec.ofNat 32 (s.param .closeWidth),
                              started := false } })

/-- A close window starts: the close line is driven active (R170). -/
def State.startWindow (c : LineIx) (s : State) : State :=
  s.modLine c (fun x =>
    { x with driven := true, window := x.window.map (fun w => { w with started := true }) })

/-- A close window ends: the close line is driven inactive (R170). -/
def State.endWindow (c : LineIx) (s : State) : State :=
  s.modLine c (fun x => { x with driven := false, window := none })

/-- A trip pulse ends: the trip line is driven inactive (R169). -/
def State.endPulse (l : LineIx) (s : State) : State :=
  s.modLine l (fun x => { x with driven := false, pulse := none })

/-! ### Inputs (R165, R166) -/

/-- A breaker change goes to GSQ and to BMN, with the value of S at the delivery (R165, R166). -/
def State.deliverBreaker (l : LineIx) (closed : Bool) (s : State) : State :=
  (s.hand (.breakerGsq l closed s.timeS)).hand (.breakerBmn l closed s.timeS)

/-- Whether a record's ready role is served by a line. -/
def Record.isReady (l : LineIx) (r : Record) : Bool :=
  match r.body with
  | .genset g => g.readyLine == l
  | _ => false

/-- Whether a record's status role is served by a line. -/
def Record.isStatus (l : LineIx) (r : Record) : Bool :=
  match r.body with
  | .feeder f => f.statusLine == some l
  | _ => false

/-- Whether some record meets a test. -/
def State.anyRecord (p : Record → Bool) (s : State) : Bool :=
  allSlots.any (fun i => (s.record? i).any p)

/-- LNU delivers an input change to the blocks that read the line: its number, the new level and the
value of S at the delivery (R165, R166). -/
def State.deliverChange (l : LineIx) (level : Bool) (s : State) : State :=
  match s.lines[l].function with
  | .statusIn => if s.anyRecord (Record.isStatus l) then s.hand (.statusShu l level s.timeS) else s
  | .readyIn => if s.anyRecord (Record.isReady l) then s.hand (.readyGsq l level s.timeS) else s
  | .genBreakerIn => s.deliverBreaker l level
  | _ => s

/-- The filtered level of an input takes a new level, and the change is delivered with the value of S
(R165). -/
def State.filterChange (l : LineIx) (level : Bool) (s : State) : State :=
  let s := s.modLine l (fun x =>
    { x with filtered := level, hold := none, lastChange := some s.timeS })
  s.deliverChange l level

/-- The pin of a filtered input changes: a hold starts, is abandoned, or, with a filter time of 0, the
change is delivered at once (R165). -/
def State.filterPin (l : LineIx) (high : Bool) (s : State) : State :=
  let s := s.modLine l (fun x => { x with pin := high })
  let x := s.lines[l]
  if x.level = x.filtered then s.modLine l (fun x => { x with hold := none })
  else if x.hold.isSome then s
  else if x.filter = 0 then s.filterChange l x.level
  else
    let till := s.now + x.filter * Config.countsPerMs
    s.modLine l (fun x => { x with hold := some { till := till, stamp := s.timeF } })

/-! ### Configuration (R163, R164) -/

/-- The default filter time of a function: 10 ms, and 100 µs for ZERO_CROSS_IN (section 9.3). -/
def LineFunction.defaultFilter : LineFunction → Nat
  | .zeroCrossIn => 100
  | _ => 10

/-- Whether a filter time lies in the range for a function (section 9.3; assumption log 20 for the
functions that do not use it). -/
def LineFunction.filterInRange (f : LineFunction) (t : Nat) : Bool :=
  match f with
  | .statusIn | .readyIn | .genBreakerIn => t ≤ 50
  | .zeroCrossIn => t ≤ 500
  | _ => true

/-- A line after LINE_CONFIGURE: the three fields set together, outputs inactive, an input's filtered
level at the level its pin shows, and no hold (R163, R164). -/
def Line.configured (x : Line) (f : LineFunction) (p : Polarity) (t : Nat) : Line :=
  let y : Line :=
    { x with function := f, polarity := p, filter := t, hold := none, lastChange := none,
             driven := false, pulse := none, window := none, filtered := false }
  { y with filtered := f.isInput && y.level }

/-- Whether a line reads a closed genset breaker. -/
def Line.breakerClosed (x : Line) : Bool := x.function == .genBreakerIn && x.filtered

/-- Whether a LINE_CONFIGURE leaves function and polarity of a line as they are, so that it delivers no
input change (R164). -/
def Line.sameRole (x : Line) (f : LineFunction) (p : Polarity) : Bool := x.function == f && x.polarity == p

/-- LINE_CONFIGURE takes effect on the line at once; a change of what the GEN_BREAKER_IN lines show is
delivered when the line leaves or takes that function, or changes its polarity (R164). -/
def State.configureLine (l : LineIx) (f : LineFunction) (p : Polarity) (t : Nat) (s : State) : State :=
  let before := s.lines[l].breakerClosed
  let same := s.lines[l].sameRole f p
  let s := s.modLine l (fun x => x.configured f p t)
  let after := s.lines[l].breakerClosed
  if before = after ∨ same = true then s else s.deliverBreaker l after

/-- The first line configured ZERO_CROSS_IN, of which there is at most one (R163). -/
def State.zeroCrossLine (s : State) : Option LineIx :=
  (List.finRange 64).find? (fun l => s.lines[l].function == .zeroCrossIn)

end Sys2Proof.Machine
end

