-- ==== Sys2Proof/Machine/Link.lean ====
section
/-! DEFINITION. The queues and the arbiter of the Field Link Controller, and the start of a field
transaction (sections 8.3, 8.5, 8.6, 8.8). -/

namespace Sys2Proof.Machine

/-! ### Stations -/

/-- Change the directory entry at an index, if there is one. -/
def State.modStation (i : DirIx) (f : Station → Station) (s : State) : State :=
  { s with stations := s.stations.set i (s.stations[i].map f) }

/-- The index of the entry with an address (section 8.1). -/
def State.stationIndex (s : State) (address : Nat) : Option DirIx :=
  (List.finRange 32).find? (fun i => s.stations[i].any (fun x => x.address == address))

/-- The entry with an address. -/
def State.station? (s : State) (address : Nat) : Option Station :=
  (s.stationIndex address).bind (fun i => s.stations[i])

/-- Whether an access gives reports (section 8.1). -/
def Access.reports : Access → Bool
  | .reportOnly | .reportCommand => true
  | .commandOnly => false

/-- The station and unit the record in a slot is bound to. -/
def State.boundTo (s : State) (i : SlotIx) : Option (Station × Nat) :=
  ((s.record? i).bind Record.binding).bind (fun b => (s.station? b.address).map (fun x => (x, b.unit)))

/-- The station and unit of a record whose station is not UNREACHABLE (R157). -/
def State.boundReachable (s : State) (i : SlotIx) : Option (Station × Nat) :=
  (s.boundTo i).filter (fun p => p.1.reach != .unreachable)

/-! ### What is queued and what is on the wire -/

/-- The value of the setpoint of a slot that is on the wire (R152). -/
def State.onWire (s : State) (i : SlotIx) : Option Nat :=
  match s.link.transaction with
  | some { errand := .setpoint j gen _ value, .. } =>
    if j = i ∧ gen = s.gen i then some value else none
  | _ => none

/-- The value of the queued setpoint entry of a slot (R152). -/
def State.queued (s : State) (i : SlotIx) : Option Nat :=
  (s.link.setpoints.find? (fun e => e.slot == i)).map SetpointEntry.value

/-- The value in the field link's hands for a PV record: queued, else on the wire, else last sent
(section 4.10). -/
def State.inHands (s : State) (i : SlotIx) : Option Nat :=
  match s.queued i with
  | some v => some v
  | none =>
    match s.onWire i with
    | some v => some v
    | none => (s.pv? i).bind Pv.lastSent

/-- The setpoint entries of a slot leave the queue (R18, R25, R152). -/
def State.dropSetpoints (i : SlotIx) (s : State) : State :=
  { s with link := { s.link with setpoints := s.link.setpoints.filter (fun e => e.slot != i) } }

/-- The UNLOAD entry of a slot leaves the command queue (R25, R154). -/
def State.dropUnload (i : SlotIx) (s : State) : State :=
  { s with link := { s.link with commands := s.link.commands.filter (fun e => e.slot != i) } }

/-! ### Starting a transaction -/

/-- The time a frame takes on the line: 10 bits a byte (8 data, start and stop) at the rate, in counts
of 100 ns, rounded up (R149). -/
def frameTime (baud bytes : Nat) : Nat := ceilDiv (bytes * 10 * 10000000) baud

/-- A transaction begins: FLC fixes what it needs, drives the direction output and transmits at BAUD,
which is the rate of the line from now on (R149, R159). It receives nothing while it transmits. -/
def State.beginTransaction (x : Station) (e : Errand) (fairness : Nat) (s : State) : State :=
  let frame := e.frame x.address
  let baud := s.param .baud
  { s with
    link :=
      { s.link with
        transaction := some
          { address := x.address, allowance := x.allowance, gap := x.gap, errand := e,
            baud := baud, frame := frame, retry := false },
        phase := .sending (s.now + frameTime baud frame.length),
        receiving := none, fairness := fairness, transmit := true, rate := baud } }

/-- The fairness count after a setpoint or command transaction, held at 4 (R156). -/
def State.fairer (s : State) : Nat := min 4 (s.link.fairness + 1)

/-- A poll begins: the station's due mark is cleared and the fairness count returns to 0 (R156,
R157). -/
def State.beginPoll (i : DirIx) (s : State) : State :=
  match s.stations[i] with
  | some x =>
    (s.modStation i (fun x => { x with due := false })).beginTransaction x (.poll x.units) 0
  | none => s

/-- A setpoint transaction begins: the entry leaves the queue, and last sent takes its value (R152,
R153). -/
def State.beginSetpoint (e : SetpointEntry) (x : Station) (unit : Nat) (s : State) : State :=
  let s := (s.dropSetpoints e.slot).modPv e.slot (fun p => { p with lastSent := some e.value })
  s.beginTransaction x (.setpoint e.slot e.gen unit e.value) s.fairer

/-- An UNLOAD transaction begins: the entry leaves the queue (R154). -/
def State.beginUnload (e : CommandEntry) (x : Station) (unit : Nat) (s : State) : State :=
  let s := s.dropUnload e.slot
  s.beginTransaction x (.unload e.slot e.gen unit) s.fairer

/-! ### The arbiter (R157) -/

/-- The due station of lowest directory index. -/
def State.duePoll (s : State) : Option DirIx :=
  (List.finRange 32).find? (fun i => s.stations[i].any Station.due)

/-- The oldest setpoint entry whose station is not UNREACHABLE, with its station and unit. -/
def State.dueSetpoint (s : State) : Option (SetpointEntry × Station × Nat) :=
  s.link.setpoints.findSome? (fun e => (s.boundReachable e.slot).map (fun p => (e, p.1, p.2)))

/-- The oldest command entry whose station is not UNREACHABLE, with its station and unit. -/
def State.dueCommand (s : State) : Option (CommandEntry × Station × Nat) :=
  s.link.commands.findSome? (fun e => (s.boundReachable e.slot).map (fun p => (e, p.1, p.2)))

/-- The work the arbiter finds, by the first row that finds any (R157). -/
inductive Work where
  | poll (i : DirIx)
  | setpoint (e : SetpointEntry) (x : Station) (unit : Nat)
  | unload (e : CommandEntry) (x : Station) (unit : Nat)
deriving DecidableEq, Repr

/-- Rows 2 to 4 of the arbiter's table (R157). -/
def State.laterWork (s : State) : Option Work :=
  match s.dueSetpoint with
  | some (e, x, u) => some (.setpoint e x u)
  | none =>
    match s.dueCommand with
    | some (e, x, u) => some (.unload e x u)
    | none => s.duePoll.map .poll

/-- The choice of the arbiter's table (R157). -/
def State.work (s : State) : Option Work :=
  if s.link.fairness = 4 then
    match s.duePoll with
    | some i => some (.poll i)
    | none => s.laterWork
  else s.laterWork

/-- The arbiter chooses the next transaction when the line is free (R157). -/
def State.arbiter (s : State) : State :=
  if s.link.phase = .free then
    match s.work with
    | some (.poll i) => s.beginPoll i
    | some (.setpoint e x u) => s.beginSetpoint e x u
    | some (.unload e x u) => s.beginUnload e x u
    | none => s
  else s

/-! ### Requests to the queues -/

/-- A setpoint request: the value of a queued entry is replaced in place, otherwise a new entry joins
the tail (R152). -/
def State.requestSetpoint (i : SlotIx) (value : Nat) (s : State) : State :=
  let q := s.link.setpoints
  let q' : List SetpointEntry :=
    if q.any (fun e => e.slot == i) then
      q.map (fun e => if e.slot = i then { e with value := value } else e)
    else q ++ [({ slot := i, gen := s.gen i, value := value } : SetpointEntry)]
  State.arbiter { s with link := { s.link with setpoints := q' } }

/-- An UNLOAD order joins the tail of the command queue; a second one for a genset already queued is
ignored (R154). -/
def State.requestUnload (i : SlotIx) (s : State) : State :=
  if s.link.commands.any (fun e => e.slot == i) then s
  else
    State.arbiter
      { s with link := { s.link with commands := s.link.commands ++ [{ slot := i, gen := s.gen i }] } }

end Sys2Proof.Machine
end

