-- ==== Sys2Proof/Machine/Slots.lean ====
section
/-! DEFINITION. What happens when a slot becomes FREE (R25), and the operations on the armed sets, the
shed batch and the re-evaluation request that it shares with the sequencers. -/

namespace Sys2Proof.Machine

/-- A block asks the Balance Unit for a re-evaluation; requests merge into one (R60). -/
def State.askReevaluation (s : State) : State := { s with blu := { s.blu with reevaluation := true } }

/-- A feeder leaves every armed set (R111). -/
def State.leaveArmed (i : SlotIx) (s : State) : State :=
  { s with
    shu := { s.shu with armed := Vector.ofFn (fun k => s.shu.armed[k].filter (fun j => j != i)) } }

/-- A feeder leaves the shed batch. When the batch passes from holding members to empty, SHU asks for
a re-evaluation (R115). -/
def State.leaveBatch (i : SlotIx) (s : State) : State :=
  if s.shu.batch.contains i then
    let s := { s with shu := { s.shu with batch := s.shu.batch.filter (fun j => j != i) } }
    if s.shu.batch.isEmpty then s.askReevaluation else s
  else s

/-- The reclose candidate becomes none and the reclose delay is cancelled (R118). -/
def State.dropReclose (s : State) : State :=
  { s with shu := { s.shu with recloseCandidate := none } }.cancel .recloseDelay

/-- The permit output of the holder is driven inactive and the holder is none (R99). -/
def State.releasePermit (s : State) : State :=
  match s.gsq.permitHolder with
  | some i =>
    let s' := { s with gsq := { s.gsq with permitHolder := none } }
    match (s.genset? i).bind Genset.permitLine with
    | some l => s'.drive l false
    | none => s'
  | none => s

/-- A genset leaves the crank wait list and the permit waiters (R81, R97). -/
def State.leaveGensetLists (i : SlotIx) (s : State) : State :=
  { s with
    gsq := { s.gsq with waitList := s.gsq.waitList.filter (fun j => j != i),
                        waiters := s.gsq.waiters.filter (fun j => j != i) } }

/-- The minimum-run mark of a slot is cleared (R74). -/
def State.clearRunMark (i : SlotIx) (s : State) : State :=
  { s with blu := { s.blu with minRunMark := s.blu.minRunMark.set i false } }

/-- The generation after a slot becomes FREE (R2). -/
def nextGen (g : Nat) : Nat := if 1023 ≤ g then 1 else g + 1

/-- A slot becomes FREE, with everything that happens together with the freeing (R25). -/
def State.freeSlot (i : SlotIx) (s : State) : State :=
  match s.record? i with
  | none => s
  | some r =>
    let s := if s.gsq.permitHolder = some i then s.releasePermit else s
    let s := s.each r.lines State.releaseLine
    let s : State := { s with slots := s.slots.set i { gen := nextGen (s.gen i), record := none } }
    let s := (s.cancel (.gensetTimer i)).cancel (.breakerConfirm i)
    let s := (s.dropSetpoints i).dropUnload i
    let s := (s.leaveArmed i).leaveBatch i
    let s : State := if s.shu.recloseCandidate = some i then s.dropReclose else s
    let s := (s.leaveGensetLists i).clearRunMark i
    s.raiseSlot NoticeKind.retireDone i

end Sys2Proof.Machine
end

