-- ==== Sys2Proof/Machine/Genset.lean ====
section
/-! DEFINITION. The Genset Sequencer (chapter 5): the sequence of each genset, start selection, the
dead-bus permit, and the steps GSQ takes. -/

namespace Sys2Proof.Machine

/-! ### States (section 5.1) -/

/-- The level of the run output in a state (R78). -/
def GensetState.runs : GensetState → Bool
  | .cranking | .runUp | .syncing | .online | .unloading => true
  | .stopped | .resting | .cooldown | .lockout => false

/-- Whether a state holds a place under START_LIMIT (R81). -/
def GensetState.holdsPlace : GensetState → Bool
  | .cranking | .resting => true
  | _ => false

/-- Whether a state counts in the capacity coming (R92). -/
def GensetState.coming : GensetState → Bool
  | .cranking | .resting | .runUp | .syncing => true
  | _ => false

/-- The genset timer a state sets at its entry, in ms (section 5.1, R101). -/
def State.timerOf (s : State) : GensetState → Option Nat
  | .cranking => some (s.param .crankTime * 1000)
  | .resting => some (s.param .crankRest * 1000)
  | .runUp => some (s.param .warmTime * 1000)
  | .syncing => some (s.param .syncTime * 1000)
  | .unloading => some (s.param .unloadTime * 1000)
  | .cooldown => some (s.param .coolTime * 1000)
  | .stopped | .online | .lockout => none

/-- Set or cancel the genset timer as a state asks (R78). -/
def State.setTimer (i : SlotIx) (st : GensetState) (s : State) : State :=
  match s.timerOf st with
  | some ms => s.setDeadline (.gensetTimer i) ms
  | none => s.cancel (.gensetTimer i)

/-- The state of the genset in a slot. -/
def State.gensetState (s : State) (i : SlotIx) : Option GensetState := (s.genset? i).map Genset.state

/-! ### The dead-bus permit (section 5.8) -/

/-- Whether the free permit may be granted: a restoration state, the live view clear, every breaker
open, and no holder (R98). -/
def State.permitFree (s : State) : Bool :=
  (s.blu.grid = .dark || s.blu.grid = .restoring) && !s.gsq.live && s.allBreakersOpen &&
  s.gsq.permitHolder.isNone

/-- GSQ tries a grant: the free permit goes to the waiter of lowest start rank, and its permit output
is asserted (R98). -/
def State.tryGrant (s : State) : State :=
  if s.permitFree then
    match minBy s.rankKey s.gsq.waiters with
    | some i =>
      let s' := { s with gsq := { s.gsq with permitHolder := some i } }
      match (s.genset? i).bind Genset.permitLine with
      | some l => s'.drive l true
      | none => s'
    | none => s
  else s

/-- A genset joins the permit waiters, at most once (R97). -/
def State.joinWaiters (i : SlotIx) (s : State) : State :=
  if s.gsq.waiters.contains i then s
  else { s with gsq := { s.gsq with waiters := s.gsq.waiters ++ [i] } }

/-- A genset leaves the permit waiters and, if it holds the permit, releases it (R97, R99). -/
def State.leavePermit (i : SlotIx) (s : State) : State :=
  let s := { s with gsq := { s.gsq with waiters := s.gsq.waiters.filter (fun j => j != i) } }
  if s.gsq.permitHolder = some i then s.releasePermit.tryGrant else s

/-! ### Changing state -/

/-- A genset leaves ONLINE: a re-evaluation is asked for, online since becomes absent, and the
minimum-run mark is cleared (R85, R74). -/
def State.leaveOnline (i : SlotIx) (s : State) : State :=
  ((s.modGenset i (fun g => { g with onlineSince := none })).clearRunMark i).askReevaluation

/-- The actions of entering ONLINE (R85), but for the permit, which leaving SYNCING releases. -/
def State.enterOnline (i : SlotIx) (s : State) : State :=
  let s := s.modGenset i (fun g => { g with attempts := 0, onlineSince := some s.timeS })
  let s := s.modRecord i (fun r => { r with fresh := false })
  ((s.askReevaluation).hand (.gensetOnline i)).raiseSlot NoticeKind.gensetOnline i

/-- The actions of entering LOCKOUT that the host and the plan see (R87, R135). -/
def State.enterLockout (i : SlotIx) (s : State) : State :=
  (s.raiseSlot NoticeKind.gensetLockout i).hand (.gensetLockout i)

/-- The state a genset takes when it is to enter `want`: SYNCING with the breaker already closed is
ONLINE, and CRANKING with the ready input already active is RUN_UP (R80, R82, R84). -/
def State.entered (s : State) (g : Genset) (want : GensetState) : GensetState :=
  match want with
  | .syncing => if s.filtered g.breakerLine then .online else .syncing
  | .cranking => if s.filtered g.readyLine then .runUp else .cranking
  | st => st

/-- The genset takes its new state, with the run output and the genset timer of that state (R78). -/
def State.putGensetState (i : SlotIx) (g : Genset) (st : GensetState) (s : State) : State :=
  ((s.modGenset i (fun g => { g with state := st })).drive g.runLine st.runs).setTimer i st

/-- The actions that follow the new state of a genset (R84, R85, R87, R97). -/
def State.onEntry (i : SlotIx) (g : Genset) (st : GensetState) (s : State) : State :=
  match st with
  | .syncing => if !s.gsq.live && g.permitLine.isSome then (s.joinWaiters i).tryGrant else s
  | .online => s.enterOnline i
  | .lockout => s.enterLockout i
  | _ => s

/-- A RETIRING genset is freed when it enters STOPPED or LOCKOUT (R22, R96). -/
def State.freeIfRetired (i : SlotIx) (st : GensetState) (s : State) : State :=
  if s.lifecycle? i = some .retiring ∧ (st = .stopped ∨ st = .lockout) then s.freeSlot i else s

/-- The genset in a slot enters a state, with everything that belongs to leaving its old state and
entering the new one. -/
def State.enter (i : SlotIx) (want : GensetState) (s : State) : State :=
  match s.genset? i with
  | none => s
  | some g =>
    let st := s.entered g want
    let s := if g.state = .online ∧ want ≠ .online then s.leaveOnline i else s
    let s := if g.state = .unloading then s.dropUnload i else s
    let s := { s with gsq := { s.gsq with waitList := s.gsq.waitList.filter (fun j => j != i) } }
    let s := s.putGensetState i g st
    let s := if g.state = .syncing ∧ st ≠ .syncing then s.leavePermit i else s
    let s := s.onEntry i g st
    s.freeIfRetired i st

/-! ### Places and start selection (R81, R92) -/

/-- How many gensets hold a place under START_LIMIT. -/
def State.placesUsed (s : State) : Nat := (s.gensets.filter (fun p => p.2.state.holdsPlace)).length

/-- Whether a place under START_LIMIT is free (R81). -/
def State.placeFree (s : State) : Bool := decide (s.placesUsed < s.param .startLimit)

/-- The capacity coming (R92). -/
def State.capacityComing (s : State) : Nat :=
  ((s.gensets.filter (fun p => p.2.state.coming || s.gsq.waitList.contains p.1)).map
    (fun p => p.2.rated)).sum

/-- GSQ takes a start order for a genset that has a place if it needs one (R80). -/
def State.startOrder (i : SlotIx) (s : State) : State :=
  match s.genset? i with
  | none => s
  | some g =>
    if g.fault then s
    else match g.state with
      | .stopped => s.enter i .cranking
      | .unloading => s.enter i .online
      | .cooldown => s.enter i .syncing
      | _ => s

/-- Whether a start order changes the state of a genset that may be started (R80). -/
def GensetState.startable : GensetState → Bool
  | .stopped | .unloading | .cooldown => true
  | _ => false

/-- Whether start selection may take the genset in a slot: ACTIVE, its reported fault clear, and not on
the crank wait list (R92). -/
def State.selectable (s : State) (i : SlotIx) (g : Genset) : Bool :=
  s.lifecycle? i = some .active && !g.fault && !s.gsq.waitList.contains i

/-- The candidate of lowest start rank in a state. -/
def State.candidateIn (s : State) (st : GensetState) : Option SlotIx :=
  minBy s.rankKey
    ((s.gensets.filter (fun p => p.2.state = st && s.selectable p.1 p.2)).map Prod.fst)

/-- The candidate start selection takes: from UNLOADING, then COOLDOWN, then STOPPED while a place is
free (R92). -/
def State.startCandidate (s : State) : Option SlotIx :=
  match s.candidateIn .unloading with
  | some i => some i
  | none =>
    match s.candidateIn .cooldown with
    | some i => some i
    | none => if s.placeFree then s.candidateIn .stopped else none

/-- The member of the crank wait list that takes a free place (R81). -/
def State.nextWaiting (s : State) : Option SlotIx :=
  if s.placeFree then minBy s.rankKey s.gsq.waitList else none

/-- A member of the crank wait list is given a place: it leaves the list and enters CRANKING (R81). -/
def State.crankWaiting (i : SlotIx) (s : State) : State :=
  let s := { s with gsq := { s.gsq with waitList := s.gsq.waitList.filter (fun j => j != i) } }
  if s.gensetState i = some .stopped then s.enter i .cranking else s

/-- What a start by selection adds for the rest of the run beyond what the capacity coming then counts:
the rated of a genset that has come ONLINE (R92). -/
def State.recalled (s : State) (i : SlotIx) : Nat :=
  match s.genset? i with
  | some g => if g.state = .online then g.rated else 0
  | none => 0

/-- The start demand that GSQ acts on: the one it holds, while the grid state, as BLU holds it, is SHORT or
EMERGENCY, and 0 in every other (R38, R92). -/
def State.demandActedOn (s : State) : Nat :=
  if s.blu.grid = .short ∨ s.blu.grid = .emergency then s.gsq.demand else 0

/-- GSQ serves the crank wait list and then runs start selection (R81, R92). The first argument bounds
the number of starts; `extra` is what recalled gensets add to the capacity coming in this run. -/
def State.select : Nat → Nat → State → State
  | 0, _, s => s
  | n + 1, extra, s =>
    match s.nextWaiting with
    | some i => State.select n extra (s.crankWaiting i)
    | none =>
      if s.capacityComing + extra < s.demandActedOn then
        match s.startCandidate with
        | some i =>
          let s' := s.startOrder i
          State.select n (extra + s'.recalled i) s'
        | none => s
      else s

/-- Start selection with a bound that 64 slots cannot exceed. -/
def State.runSelection (s : State) : State := s.select 200 0

/-- A genset enters a state and start selection runs on the change (R92). -/
def State.enterAndSelect (i : SlotIx) (want : GensetState) (s : State) : State :=
  (s.enter i want).runSelection

/-! ### Orders -/

/-- A start order, with start selection run on the change of state it makes, if it makes one (R80,
R92). -/
def State.startAndSelect (i : SlotIx) (s : State) : State :=
  if (s.genset? i).any (fun g => !g.fault && g.state.startable) then (s.startOrder i).runSelection
  else s

/-- A start order of a plan step: a STOPPED genset with no place free goes onto the crank wait list
(R81). -/
def State.planStartOrder (i : SlotIx) (s : State) : State :=
  match s.genset? i with
  | none => s
  | some g =>
    if g.fault then s
    else if g.state = .stopped ∧ ¬ s.placeFree then
      if s.gsq.waitList.contains i then s
      else { s with gsq := { s.gsq with waitList := s.gsq.waitList ++ [i] } }
    else s.startAndSelect i

/-- A stop order: an ONLINE genset enters UNLOADING and an UNLOAD order is queued; in any other state
it changes nothing (R88). -/
def State.stopOrder (i : SlotIx) (s : State) : State :=
  if s.gensetState i = some .online then
    ((s.enter i .unloading).requestUnload i).runSelection
  else s

/-- One more attempt used (R82, R84). -/
def State.useAttempt (i : SlotIx) (s : State) : State :=
  s.modGenset i (fun g => { g with attempts := g.attempts + 1 })

/-- Whether attempts used has reached CRANK_ATTEMPTS (R82, R84). -/
def State.spent (s : State) (i : SlotIx) : Bool :=
  (s.genset? i).any (fun g => decide (s.param .crankAttempts ≤ g.attempts))

/-! ### Reports (R81, R87, R89) -/

/-- A report entry that sets the reported fault: the genset leaves the crank wait list, its attempts used kept
(assumption log 60), and, out of STOPPED and LOCKOUT, is locked out (R81, R87). -/
def State.faultReported (i : SlotIx) (s : State) : State :=
  let s := { s with gsq := { s.gsq with waitList := s.gsq.waitList.filter (fun j => j != i) } }
  match s.gensetState i with
  | some .stopped | some .lockout | none => s
  | some _ => s.enterAndSelect i .lockout

/-- The unload is complete: the genset enters COOLDOWN (R89). -/
def State.unloadDone (i : SlotIx) (s : State) : State := s.enterAndSelect i .cooldown

/-- A report entry of an UNLOADING genset is tested against UNLOAD_LEVEL (R89). -/
def State.unloadReport (i : SlotIx) (s : State) : State :=
  match s.genset? i with
  | some g =>
    if g.state = .unloading ∧ g.output.getD 0 * 100 ≤ s.param .unloadLevel * g.rated then
      s.unloadDone i
    else s
  | none => s

/-! ### Derivation (R79) -/

/-- The state a genset's lines show (R79). -/
def State.derived (s : State) (g : Genset) : GensetState :=
  let run := s.lines[g.runLine].driven
  if s.filtered g.breakerLine && s.filtered g.readyLine && run then .online
  else if s.filtered g.readyLine && !run then .cooldown
  else .stopped

/-- GSQ derives the state of a genset: ONLINE has online since 0, COOLDOWN has its COOL_TIME timer, and
STOPPED has its run output inactive (R79). -/
def State.deriveGenset (i : SlotIx) (s : State) : State :=
  match s.genset? i with
  | none => s
  | some g =>
    let st := s.derived g
    let s := s.modGenset i (fun g =>
      { g with state := st, attempts := 0, trips := 0,
               onlineSince := if st = .online then some 0 else none })
    let s := s.drive g.runLine st.runs
    if st = .cooldown then s.setDeadline (.gensetTimer i) (s.param .coolTime * 1000) else s

/-! ### The steps of GSQ: timer expiries -/

/-- GSQ takes a genset timer expiry in the state it belongs to (R78). -/
def State.onGensetExpiry (i : SlotIx) (st : GensetState) (f : State → State) (s : State) : State :=
  if s.gensetState i = some st then s.onExpiry (.gensetTimer i) f else s

/-- The CRANK_TIME expiry (R82). -/
def State.crankExpired (i : SlotIx) (s : State) : State :=
  let s := s.useAttempt i
  s.enterAndSelect i (if s.spent i then .lockout else .resting)

/-- The SYNC_TIME expiry (R84). -/
def State.syncExpired (i : SlotIx) (s : State) : State :=
  let s := s.useAttempt i
  if s.spent i then s.enterAndSelect i .lockout
  else if s.placeFree then s.enterAndSelect i .resting
  else
    let s := s.enter i .stopped
    let s := if s.gensetState i = some .stopped then
      { s with gsq := { s.gsq with waitList := s.gsq.waitList ++ [i] } } else s
    s.runSelection

/-- A genset in COOLDOWN enters STOPPED, with attempts used 0 (R90). -/
def State.coolStopped (i : SlotIx) (s : State) : State :=
  (s.modGenset i (fun g => { g with attempts := 0 })).enterAndSelect i .stopped

/-- The COOL_TIME expiry: the breaker is read (R90). -/
def State.coolExpired (i : SlotIx) (s : State) : State :=
  match s.genset? i with
  | some g =>
    if s.filtered g.breakerLine then s.raiseSlot NoticeKind.breaker i else s.coolStopped i
  | none => s

def execCrankTimeExpiry (i : SlotIx) (s : State) : Host.Outcome State Fault Refusal :=
  .next (s.onGensetExpiry i .cranking (State.crankExpired i))

def execCrankRestExpiry (i : SlotIx) (s : State) : Host.Outcome State Fault Refusal :=
  .next (s.onGensetExpiry i .resting (State.enterAndSelect i .cranking))

def execWarmTimeExpiry (i : SlotIx) (s : State) : Host.Outcome State Fault Refusal :=
  .next (s.onGensetExpiry i .runUp (State.enterAndSelect i .syncing))

def execSyncTimeExpiry (i : SlotIx) (s : State) : Host.Outcome State Fault Refusal :=
  .next (s.onGensetExpiry i .syncing (State.syncExpired i))

def execUnloadTimeExpiry (i : SlotIx) (s : State) : Host.Outcome State Fault Refusal :=
  .next (s.onGensetExpiry i .unloading (State.unloadDone i))

def execCoolTimeExpiry (i : SlotIx) (s : State) : Host.Outcome State Fault Refusal :=
  .next (s.onGensetExpiry i .cooldown (State.coolExpired i))

/-! ### The steps of GSQ: input changes -/

/-- The genset whose breaker role a line serves. -/
def State.breakerGenset (s : State) (l : LineIx) : Option (SlotIx × Genset) :=
  s.gensets.find? (fun p => p.2.breakerLine == l)

/-- The genset whose ready role a line serves. -/
def State.readyGenset (s : State) (l : LineIx) : Option (SlotIx × Genset) :=
  s.gensets.find? (fun p => p.2.readyLine == l)

/-- A breaker trips while the genset is ONLINE: it enters SYNCING and its trip count rises by one, up
to 255 (R86). -/
def State.gensetTrip (i : SlotIx) (s : State) : State :=
  ((s.modGenset i (fun g => { g with trips := min 255 (g.trips + 1) })).raiseSlot
    NoticeKind.gensetTrip i).enterAndSelect i .syncing

/-- The breaker input of a genset changes to closed (R84, R91). -/
def State.breakerClosed (i : SlotIx) (g : Genset) (s : State) : State :=
  match g.state with
  | .syncing => s.enterAndSelect i .online
  | .online | .unloading => s
  | _ => s.raiseSlot NoticeKind.breaker i

/-- The breaker input of a genset changes to open (R86, R89, R90, R91). -/
def State.breakerOpened (i : SlotIx) (g : Genset) (s : State) : State :=
  match g.state with
  | .online => s.gensetTrip i
  | .unloading => s.unloadDone i
  | .cooldown => if s.isSet (.gensetTimer i) then s else s.coolStopped i
  | _ => s

/-- The permit arbiter takes a change of a GEN_BREAKER_IN line: another line that closes makes the
holder release the permit, and a line that opens may make a grant (R98, R99). -/
def State.permitBreaker (l : LineIx) (closed : Bool) (s : State) : State :=
  if closed then
    match s.gsq.permitHolder with
    | some i =>
      if (s.genset? i).any (fun g => g.breakerLine != l) then s.releasePermit.tryGrant else s
    | none => s
  else s.tryGrant

/-- GSQ takes a genset breaker change, for the genset first and for the permit arbiter then (R86, R98, R166;
assumption log 40). -/
def State.gsqBreaker (l : LineIx) (closed : Bool) (s : State) : State :=
  let s' := match s.breakerGenset l with
    | some (i, g) => if closed then s.breakerClosed i g else s.breakerOpened i g
    | none => s
  s'.permitBreaker l closed

/-- The genset a ready input serves takes a change of it (R82, R87, R91). -/
def State.readyChanged (i : SlotIx) (g : Genset) (active : Bool) (s : State) : State :=
  match g.state, active with
  | .cranking, true => s.enterAndSelect i .runUp
  | .runUp, false | .syncing, false | .online, false | .unloading, false =>
    s.enterAndSelect i .lockout
  | _, _ => s

/-- GSQ takes a ready input change (R82, R87). -/
def State.gsqReady (l : LineIx) (active : Bool) (s : State) : State :=
  match s.readyGenset l with
  | some (i, g) => s.readyChanged i g active
  | none => s

/-- The breaker change handed to GSQ. -/
def Message.breakerGsq? : Message → Option (LineIx × Bool)
  | .breakerGsq l c _ => some (l, c)
  | _ => none

/-- The ready change handed to GSQ. -/
def Message.readyGsq? : Message → Option (LineIx × Bool)
  | .readyGsq l a _ => some (l, a)
  | _ => none

def execGenBreakerChange (s : State) : Host.Outcome State Fault Refusal :=
  .next (s.awake (State.take Message.breakerGsq? (fun p => State.gsqBreaker p.1 p.2)))

def execGensetReadyChange (s : State) : Host.Outcome State Fault Refusal :=
  .next (s.awake (State.take Message.readyGsq? (fun p => State.gsqReady p.1 p.2)))

/-! ### The steps of GSQ: demands and announcements -/

/-- GSQ takes an effective start demand; it is kept, and acted on where the grid state allows it (R38, R39, R92). -/
def State.gsqDemand (kw : Nat) (s : State) : State :=
  { s with gsq := { s.gsq with demand := kw } }.runSelection

/-- GSQ takes a LIVE declaration: the live view is set, the permit released, the waiters emptied
(R100). -/
def State.gsqLive (s : State) : State :=
  let s := { s with gsq := { s.gsq with live := true } }
  let s := s.releasePermit
  { s with gsq := { s.gsq with waiters := [] } }

/-- GSQ takes an entry to DARK (R100). -/
def State.gsqDark (s : State) : State :=
  let s := { s with gsq := { s.gsq with live := false } }
  let s := s.releasePermit
  let s := s.each s.gsq.waitList (fun i => State.modGenset i (fun g => { g with attempts := 0 }))
  let s := { s with gsq := { s.gsq with waitList := [] } }
  let joining := (s.gensets.filter (fun p => p.2.state = .syncing && p.2.permitLine.isSome)).map Prod.fst
  (s.each joining State.joinWaiters).tryGrant

/-- GSQ takes an announcement of a grid-state change (R99, R100). -/
def State.gsqGrid (old new : GridState) (s : State) : State :=
  match new with
  | .dark => s.gsqDark
  | .restoring => s.tryGrant
  | _ => if old = .dark ∨ old = .restoring then s.releasePermit else s

/-- The start demand handed to GSQ. -/
def Message.startDemand? : Message → Option Nat
  | .startDemand kw => some kw
  | _ => none

/-- The LIVE declaration handed to GSQ. -/
def Message.liveGsq? : Message → Option Unit
  | .liveGsq => some ()
  | _ => none

/-- The grid-state announcement handed to GSQ. -/
def Message.gridGsq? : Message → Option (GridState × GridState)
  | .gridGsq a b => some (a, b)
  | _ => none

def execStartDemandHandover (s : State) : Host.Outcome State Fault Refusal :=
  .next (s.awake (State.take Message.startDemand? State.gsqDemand))

def execGsqLiveDeclaration (s : State) : Host.Outcome State Fault Refusal :=
  .next (s.awake (State.take Message.liveGsq? (fun _ => State.gsqLive)))

def execGsqGridStateChange (s : State) : Host.Outcome State Fault Refusal :=
  .next (s.awake (State.take Message.gridGsq? (fun p => State.gsqGrid p.1 p.2)))

/-! ### The host's requests (section 5.7) -/

/-- START of the genset in a slot, its handle and kind checked (R93). -/
def State.startRequest (h : Handle) (i : SlotIx) (s : State) : State :=
  match s.genset? i with
  | none => s
  | some g =>
    if s.blu.grid = .dark ∨ s.lifecycle? i = some .retiring ∨ g.state = .lockout ∨ g.fault = true then
      s.refuse (.start h) .state
    else if g.state = .stopped ∧ ¬ s.placeFree then s.refuse (.start h) .busy
    else (s.startAndSelect i).respond (.start h) .ok []

/-- Whether another genset is in ONLINE (R94). -/
def State.otherOnline (s : State) (i : SlotIx) : Bool :=
  s.gensets.any (fun p => p.1 != i && p.2.state == .online)

/-- The effect of an accepted STOP, by the genset's state (R94). A STOPPED genset that leaves the crank wait list
keeps its attempts used (assumption log 60). -/
def State.hostStop (i : SlotIx) (g : Genset) (s : State) : State :=
  match g.state with
  | .online => s.stopOrder i
  | .cranking | .resting | .runUp | .syncing =>
    (s.modGenset i (fun g => { g with attempts := 0 })).enterAndSelect i .stopped
  | .stopped =>
    { s with gsq := { s.gsq with waitList := s.gsq.waitList.filter (fun j => j != i) } }
  | .unloading | .cooldown | .lockout => s

/-- STOP of the genset in a slot, its handle and kind checked (R94). -/
def State.stopRequest (h : Handle) (i : SlotIx) (s : State) : State :=
  match s.genset? i with
  | none => s
  | some g =>
    if g.state = .online ∧ ¬ s.otherOnline i then s.refuse (.stop h) .needed
    else (s.hostStop i g).respond (.stop h) .ok []

/-- CLEAR_LOCKOUT of the genset in a slot, its handle and kind checked (R95). -/
def State.clearLockoutRequest (h : Handle) (i : SlotIx) (s : State) : State :=
  if s.gensetState i = some .lockout then
    ((s.modGenset i (fun g => { g with attempts := 0 })).enterAndSelect i .stopped).respond
      (.clearLockout h) .ok []
  else s.refuse (.clearLockout h) .state

def execStart (h : Handle) (s : State) : Host.Outcome State Fault Refusal :=
  .next (s.serve (.start h) (State.withKind (.start h) h .genset (State.startRequest h)))

def execStop (h : Handle) (s : State) : Host.Outcome State Fault Refusal :=
  .next (s.serve (.stop h) (State.withKind (.stop h) h .genset (State.stopRequest h)))

def execClearLockout (h : Handle) (s : State) : Host.Outcome State Fault Refusal :=
  .next (s.serve (.clearLockout h)
    (State.withKind (.clearLockout h) h .genset (State.clearLockoutRequest h)))

end Sys2Proof.Machine
end

