-- ==== Sys2Proof/Machine/Balance.lean ====
section
/-! DEFINITION. The Balance Unit: the grid state and what leaving and entering a state brings (chapter
2), the evaluation and the stop test (chapter 4), and the steps BLU takes. -/

namespace Sys2Proof.Machine

/-! ### What an evaluation reads (section 4.2) -/

/-- Whether the record in a slot is fresh as judged now (R12). -/
def State.freshSlot (s : State) (i : SlotIx) : Bool := (s.record? i).any s.isFresh

/-- The online set G (R61). -/
def State.onlineSet (s : State) : List (SlotIx × Genset) :=
  s.gensets.filter (fun p => p.2.state = .online)

/-- Pg of a member of G: the reported output limited to twice the rated while fresh, the rated while
stale (R61). -/
def State.pg (s : State) (p : SlotIx × Genset) : Nat :=
  if s.freshSlot p.1 then min (p.2.output.getD 0) (2 * p.2.rated) else p.2.rated

/-- The PV set V (R62). -/
def State.pvSet (s : State) : List (SlotIx × Pv) :=
  s.pvs.filter (fun p => s.lifecycle? p.1 = some .active)

/-- Ppv: the last reported output limited to the rated, 0 before the first report (R62). -/
def Pv.ppv (p : Pv) : Nat := min (p.output.getD 0) p.rated

/-- Pav of a distributable plant: the reported availability limited to the rated (R62). -/
def Pv.pav (p : Pv) : Nat := min (p.available.getD 0) p.rated

/-- The distributable plants of V (R62). -/
def State.distributable (s : State) : List (SlotIx × Pv) :=
  s.pvSet.filter (fun p => s.freshSlot p.1)

/-- The fixed plants of V (R62). -/
def State.fixedPlants (s : State) : List (SlotIx × Pv) :=
  s.pvSet.filter (fun p => !s.freshSlot p.1)

/-! ### Load, headroom, reserve and allowance (sections 4.4 and 4.5) -/

/-- ΣPpv over V (R64, R65). -/
def State.pvOutput (s : State) : Nat := (s.pvSet.map (fun p => p.2.ppv)).sum

/-- The load L (R64). -/
def State.loadL (s : State) : Nat := (s.onlineSet.map s.pg).sum + s.pvOutput

/-- The headroom H, the signed sum of rated minus output (R64). -/
def State.headroomH (s : State) : Int :=
  (s.onlineSet.map (fun p => (p.2.rated : Int) - s.pg p)).sum

/-- The required reserve Rq (R65). -/
def State.requiredRq (s : State) : Nat :=
  s.param .reserveBase + ceilDiv (s.param .cloudFactor * s.pvOutput) 100

/-- The allowance before the over-frequency term: L − F, and 0 with no genset online (R66). -/
def State.baseAllowance (s : State) : Nat :=
  if s.onlineSet.isEmpty then 0
  else s.loadL - ((s.onlineSet.map (fun p => p.2.minLoad)).sum + s.param .loadMargin)

/-- The over-frequency term A_of, absent at or below OF_START (R67). -/
def State.overFrequency (s : State) : Option Nat :=
  let f := s.bus.frequency
  let lo := s.param .ofStart
  let hi := s.param .ofFull
  if f ≤ lo then none
  else if hi ≤ f then some 0
  else some (min s.pvOutput (s.pvOutput * (hi - f) / (hi - lo)))

/-- The allowance A (R66, R67). -/
def State.allowanceA (s : State) : Nat :=
  match s.overFrequency with
  | some t => min s.baseAllowance t
  | none => s.baseAllowance

/-- The results of an evaluation made now (R63). -/
def State.figures (s : State) : Results :=
  { load := s.loadL, headroom := s.headroomH, required := s.requiredRq, allowance := s.allowanceA,
    startDemand := (s.requiredRq - s.headroomH).toNat,
    shedDemand := (s.param .emergReserve - s.headroomH).toNat }

/-- A′, the allowance left to the distributable plants (R68). -/
def State.sharedAllowance (s : State) : Nat :=
  s.allowanceA - (s.fixedPlants.map (fun p => p.2.setpoint)).sum

/-! ### The class-wise cut (section 4.6) -/

/-- The order in which the remainder is handed out: descending Pav, the lower slot first (R70). -/
def remainderBefore (a b : SlotIx × Pv) : Bool :=
  b.2.pav < a.2.pav || (a.2.pav == b.2.pav && decide (a.1 < b.1))

/-- Hand out the remainder `r` down the order and give the targets (R70). `cut` is the cut of a plant
after rounding down. -/
def handOut (cut : SlotIx × Pv → Nat) : Nat → List (SlotIx × Pv) → List (SlotIx × Nat)
  | _, [] => []
  | r, p :: rest =>
    if 0 < r ∧ cut p < p.2.pav then (p.1, p.2.pav - (cut p + 1)) :: handOut cut (r - 1) rest
    else (p.1, p.2.pav - cut p) :: handOut cut r rest

/-- The sum of Pav of some plants (R69). -/
def pavSum (ps : List (SlotIx × Pv)) : Nat := (ps.map (fun p => p.2.pav)).sum

/-- The cut of a plant after rounding down: ⌊X × Pav / Tc⌋ (R70). -/
def roundedCut (x tc : Nat) (p : SlotIx × Pv) : Nat := x * p.2.pav / tc

/-- The pro-rata targets of a class whose Tc exceeds X (R70). -/
def proRata (x : Nat) (ps : List (SlotIx × Pv)) : List (SlotIx × Nat) :=
  let cut := roundedCut x (pavSum ps)
  handOut cut (x - (ps.map cut).sum) (sortBy remainderBefore ps)

/-- The targets of the classes in the order given, with X left to cut (R69). -/
def cutClasses (ps : List (SlotIx × Pv)) : List Nat → Nat → List (SlotIx × Nat)
  | [], _ => []
  | c :: cs, x =>
    let mine := ps.filter (fun p => p.2.cls == c)
    let tc := pavSum mine
    if x = 0 then mine.map (fun p => (p.1, p.2.rated)) ++ cutClasses ps cs 0
    else if tc ≤ x then mine.map (fun p => (p.1, 0)) ++ cutClasses ps cs (x - tc)
    else proRata x mine ++ cutClasses ps cs 0

/-- The classes from 7 down to 0. -/
def classesDown : List Nat := [7, 6, 5, 4, 3, 2, 1, 0]

/-- The targets of the distributable plants for A′ (R69). -/
def targets (ps : List (SlotIx × Pv)) (allowance : Nat) : List (SlotIx × Nat) :=
  cutClasses ps classesDown (pavSum ps - allowance)

/-! ### Caps, ramps and setpoints (sections 4.7 and 4.8) -/

/-- The restoration cap: outside RESTORING none, in RESTORING the plan cap, and 0 without one (R71). -/
def capped (g : GridState) (p : Pv) (v : Nat) : Nat :=
  match g with
  | .restoring => min v (p.planCap.getD 0)
  | _ => v

/-- The ramp step of an evaluation (R72). -/
def rampStep (limit period : Nat) : Nat := ceilDiv (limit * period) 1000

/-- The new setpoint of a distributable plant from its target (R72). -/
def Pv.ramped (p : Pv) (period target : Nat) : Nat :=
  min p.rated
    (if target ≤ p.setpoint then target
      else match p.ramp with
        | some limit => min target (p.setpoint + rampStep limit period)
        | none => target)

/-- The target of a slot, among those the cut gives. -/
def targetOf (ts : List (SlotIx × Nat)) (i : SlotIx) : Nat :=
  ((ts.find? (fun t => t.1 == i)).map Prod.snd).getD 0

/-- The setpoint an evaluation gives a member of V (R62, R71, R72). -/
def State.newSetpoint (s : State) (p : SlotIx × Pv) : Nat :=
  let g := s.blu.grid
  if s.freshSlot p.1 then
    p.2.ramped (s.param .evalPeriod) (capped g p.2 (targetOf (targets s.distributable s.sharedAllowance) p.1))
  else capped g p.2 p.2.setpoint

/-- Give a PV record its setpoint. -/
def State.putSetpoint (i : SlotIx) (v : Nat) (s : State) : State :=
  s.modPv i (fun p => { p with setpoint := v })

/-- Every member of V takes its new setpoint; all are found from the figures read at the start (R63). -/
def State.putSetpoints (s : State) : State :=
  s.each (s.pvSet.map (fun p => (p.1, s.newSetpoint p))) (fun x => State.putSetpoint x.1 x.2)

/-! ### Sending setpoints (section 4.10) -/

/-- Whether nothing of a record is queued or on the wire. -/
def State.idleSetpoint (s : State) (i : SlotIx) : Bool :=
  (s.queued i).isNone && (s.onWire i).isNone

/-- Whether a member of V needs a setpoint request (the table of section 4.10). -/
def State.needsRequest (s : State) (i : SlotIx) : Bool :=
  match s.pv? i with
  | none => false
  | some p =>
    match s.inHands i with
    | none => true
    | some v => v != p.setpoint || (s.idleSetpoint i && p.lastAck != some p.setpoint)

/-- A request for a member of V, recorded when it is made. -/
def sendOne (acc : State × List SlotIx) (i : SlotIx) : State × List SlotIx :=
  if acc.1.needsRequest i then
    (acc.1.requestSetpoint i (((acc.1.pv? i).map Pv.setpoint).getD 0), acc.2 ++ [i])
  else acc

/-- The requests for V in slot order, with the slots for which one was queued (section 4.10). -/
def State.sendSetpoints (s : State) : State × List SlotIx :=
  (s.pvSet.map Prod.fst).foldl sendOne (s, [])

/-- A RETIRING PV record whose last acknowledged value is not 0, with nothing queued or on the wire
(R23; an absent value counts as not 0: assumption log 13). -/
def State.retireResend (s : State) (i : SlotIx) : Bool :=
  s.lifecycle? i = some .retiring && (s.pv? i).any (fun p => p.lastAck != some 0) && s.idleSetpoint i

/-- Setpoint 0 is queued again for the RETIRING PV records that ask for it (R23). -/
def State.resendRetiring (s : State) : State :=
  s.each (s.pvs.map Prod.fst) (fun i s => if s.retireResend i then s.requestSetpoint i 0 else s)

/-! ### Changing the grid state (sections 2.4 to 2.7) -/

/-- The stop candidate becomes none and the stop-delay deadline is cancelled (R40, R75). -/
def State.dropStop (s : State) : State :=
  { s with blu := { s.blu with stopCandidate := none } }.cancel .stopDelay

/-- A plan cap is removed (R37). -/
def State.dropCap (i : SlotIx) (s : State) : State := s.modPv i (fun p => { p with planCap := none })

/-- Every plan cap is removed (R37). -/
def State.dropCaps (s : State) : State := s.each (s.pvs.map Prod.fst) State.dropCap

/-- What leaving a grid state brings in BLU (R37, R40). -/
def State.leaveGrid (old : GridState) (s : State) : State :=
  match old with
  | .normal => s.dropStop
  | .restoring => s.dropCaps
  | _ => s

/-- The grid state changes: what belongs to leaving the old state is done, and the change is announced
to GSQ, SHU and RSQ (R40). -/
def State.changeGrid (new : GridState) (s : State) : State :=
  let old := s.blu.grid
  let s := { s with blu := { s.blu with grid := new } }.leaveGrid old
  ((s.hand (.gridGsq old new)).hand (.gridShu old new)).hand (.gridRsq old new)

/-- The effective start demand (R39). -/
def State.effectiveStart (s : State) : Nat :=
  match s.blu.grid with
  | .short | .emergency => s.blu.results.elim 0 Results.startDemand
  | _ => 0

/-- The effective shed demand (R39). -/
def State.effectiveShed (s : State) : Nat :=
  match s.blu.grid with
  | .emergency => s.blu.results.elim 0 Results.shedDemand
  | _ => 0

/-- BLU hands on the effective demands; a rise of the effective start demand from 0 raises
START_DEMAND (R39). -/
def State.handDemands (s : State) : State :=
  let was := s.blu.effStart
  let ds := s.effectiveStart
  let s := { s with blu := { s.blu with effStart := ds, effShed := s.effectiveShed } }
  let s := if was = 0 ∧ 0 < ds then s.raise NoticeKind.startDemand none else s
  s.hand (.startDemand ds)

/-- A change of grid state outside an evaluation (R39, R40). -/
def State.moveGrid (new : GridState) (s : State) : State := (s.changeGrid new).handDemands

/-! ### The state step (R30) -/

/-- Whether any under-frequency stage stands raised. -/
def State.anyStage (s : State) : Bool := (List.finRange 4).any (fun k => s.bus.raised[k])

/-- The grid state after the state step (R30). -/
def stateStep (g : GridState) (stage : Bool) (r : Results) (hyst reserve : Nat) : GridState :=
  match g with
  | .normal =>
    if stage || 0 < r.shedDemand then .emergency else if 0 < r.startDemand then .short else .normal
  | .short =>
    if stage || 0 < r.shedDemand then .emergency
    else if (r.required : Int) - r.headroom ≤ -(hyst : Int) then .normal else .short
  | .emergency =>
    if !stage && decide ((reserve : Int) + hyst ≤ r.headroom) then
      if 0 < r.startDemand then .short else .normal
    else .emergency
  | .survey => .survey
  | .dark => .dark
  | .restoring => .restoring

/-- BLU applies the state step, at most one change (R30). -/
def State.stepGrid (r : Results) (s : State) : State :=
  let new := stateStep s.blu.grid s.anyStage r (s.param .stateHyst) (s.param .emergReserve)
  if new = s.blu.grid then s else s.changeGrid new

/-! ### The stop test (section 4.11) -/

/-- The minimum-run marks of the members of G that have run MIN_RUN are set (R74). -/
def State.markRuns (s : State) : State :=
  let ran (i : SlotIx) : Bool :=
    (s.genset? i).any (fun g => g.state = .online &&
      g.onlineSince.any (fun t => decide (s.param .minRun * 1000 ≤ s.since t)))
  { s with
    blu := { s.blu with minRunMark := Vector.ofFn (fun i => s.blu.minRunMark[i] || ran i) } }

/-- Whether a genset may be the stop candidate (R74). -/
def State.mayStop (s : State) (i : SlotIx) (g : Genset) : Bool :=
  (s.lifecycle? i = some .provisional || s.lifecycle? i = some .active) && !g.mustRun &&
  s.blu.minRunMark[i]

/-- Whether the stop test has no candidate whatever the gensets: fewer than two online, one unloading,
or a RETIRING one online (R74). -/
def State.noCandidate (s : State) : Bool :=
  decide (s.onlineSet.length < 2) || s.gensets.any (fun p => p.2.state == .unloading) ||
  s.onlineSet.any (fun p => s.lifecycle? p.1 = some .retiring)

/-- The stop candidate: the highest start rank, the higher slot among equals (R74). -/
def State.stopChoice (s : State) : Option (SlotIx × Genset) :=
  if s.noCandidate then none
  else minBy (fun p => (255 - p.2.rank) * 64 + (63 - p.1)) (s.onlineSet.filter (fun p => s.mayStop p.1 p.2))

/-- Whether the stop test passes for a genset (R75). -/
def State.stopPasses (s : State) (r : Results) (g : Genset) : Bool :=
  decide ((r.required : Int) + s.param .stopMargin ≤ r.headroom - g.rated)

/-- The stop test of an evaluation whose state step leaves the grid in NORMAL (R74, R75). -/
def State.stopTest (r : Results) (s : State) : State :=
  match s.stopChoice with
  | none => s.dropStop
  | some (i, g) =>
    let same := s.blu.stopCandidate = some i
    let pass := s.stopPasses r g
    let s := { s with blu := { s.blu with stopCandidate := some i } }
    if pass then
      if same ∧ s.isSet .stopDelay then s else s.setDeadline .stopDelay (s.param .stopDelay * 1000)
    else s.cancel .stopDelay

/-! ### The evaluation (R63) -/

/-- The plan-cap results of an evaluation in RESTORING: for every PV record whose plan cap is present,
its setpoint and whether a request was queued (R71). -/
def State.capResults (s : State) (queued : List SlotIx) : List CapResult :=
  (s.pvs.filter (fun p => p.2.planCap.isSome)).map
    (fun p => { slot := p.1, setpoint := p.2.setpoint, queued := queued.contains p.1 })

/-- The results of an evaluation are stored, and a pending re-evaluation request is answered (R60,
R63). -/
def State.storeResults (r : Results) (s : State) : State :=
  { s with blu := { s.blu with results := some r, reevaluation := false } }

/-- BLU hands the outcome of an evaluation to SHU and, in RESTORING, to RSQ (R63). -/
def State.handResults (r : Results) (queued : List SlotIx) (s : State) : State :=
  let s := s.hand (.shuEvaluation s.blu.effShed r.load r.headroom r.required s.blu.grid)
  if s.blu.grid = .restoring then s.hand (.rsqEvaluation r.headroom (s.capResults queued)) else s

/-- An evaluation, whole (R63). The re-sends of 0 for RETIRING PV records are queued after the setpoint
requests of section 4.10 (R23; assumption log 39). The stop test, and the reclose test handed to SHU, run in the
very evaluation that enters NORMAL (R63, R74, R118; R40 says otherwise: assumption log 51). -/
def State.evaluate (s : State) : State :=
  let r := s.figures
  let sent := s.putSetpoints.sendSetpoints
  let s := (sent.1.resendRetiring).storeResults r
  let s := (s.markRuns.stepGrid r).handDemands
  let s := s.handResults r sent.2
  if s.blu.grid = .normal then s.stopTest r
  else s.dropStop

/-! ### Entering DARK (R32, R33) -/

/-- A PV record on the entry to DARK: setpoint 0, and an entry of 0 queued unless both last sent and
last acknowledged are 0 (R33). -/
def State.darkPv (i : SlotIx) (s : State) : State :=
  let told := (s.pv? i).any (fun p => p.lastSent == some 0 && p.lastAck == some 0)
  let s := s.putSetpoint i 0
  if told then s else s.requestSetpoint i 0

/-- The grid enters DARK; the entries of 0 are queued in ascending slot order (R32, R33; assumption log 47). -/
def State.enterDark (s : State) : State :=
  let s := { s with blu := { s.blu with results := none } }
  let s := (s.changeGrid .dark).dropStop
  (s.each (s.pvs.map Prod.fst) State.darkPv).handDemands

/-! ### The steps BLU takes -/

/-- BLU evaluates when the grid state allows it (R38, R59). -/
def State.evaluateIfWorking (s : State) : State :=
  if s.blu.grid = .survey ∨ s.blu.grid = .dark then s else s.evaluate

/-- The grid becomes NORMAL and BLU evaluates at once (R29, R35, R37). -/
def State.toNormal (s : State) : State := (s.moveGrid .normal).evaluate

/-- The pending re-evaluation request is taken (R60). -/
def State.takeReevaluation (s : State) : State :=
  if s.blu.reevaluation then
    { s with blu := { s.blu with reevaluation := false } }.evaluateIfWorking
  else s

/-- The stop-delay expiry (R76). -/
def State.stopDelayExpired (s : State) : State :=
  let s' := { s with blu := { s.blu with stopCandidate := none } }
  match s.blu.stopCandidate with
  | none => s'
  | some i =>
    let fit := (s.genset? i).any (fun g => g.state = .online && !g.mustRun) &&
      (s.lifecycle? i = some .provisional || s.lifecycle? i = some .active) &&
      s.blu.grid = .normal
    if fit then s'.stopOrder i else s'

/-- BLU takes a stage raise (R31). -/
def State.bluStage (s : State) : State :=
  if s.blu.grid = .normal ∨ s.blu.grid = .short then s.moveGrid .emergency else s

/-- BLU takes a dark declaration (R32). -/
def State.bluDark (s : State) : State := if s.blu.grid = .dark then s else s.enterDark

/-- BLU takes a LIVE declaration (R29, R35, R37). -/
def State.bluLive (s : State) : State :=
  match s.blu.grid with
  | .survey | .dark => s.toNormal
  | .restoring => if s.rsq.state = .complete then s.toNormal else s
  | .normal | .short | .emergency => s

/-- BLU takes the plan start (R36). -/
def State.bluPlanStart (s : State) : State :=
  if s.blu.grid = .dark then s.moveGrid .restoring else s

/-- BLU takes the plan end, COMPLETE or FAILED (R37). -/
def State.bluPlanEnd (complete : Bool) (s : State) : State :=
  if s.blu.grid = .restoring then
    if s.bus.live then s.toNormal else if complete then s else s.enterDark
  else s

/-- The stage raise handed to BLU. -/
def Message.stageRaiseBlu? : Message → Option StageIx
  | .stageRaiseBlu k => some k
  | _ => none

/-- The dark declaration handed to BLU. -/
def Message.darkBlu? : Message → Option Unit
  | .darkBlu => some ()
  | _ => none

/-- The LIVE declaration handed to BLU. -/
def Message.liveBlu? : Message → Option Unit
  | .liveBlu => some ()
  | _ => none

/-- The plan start reported to BLU. -/
def Message.planStart? : Message → Option Unit
  | .planStart => some ()
  | _ => none

/-- The plan end reported to BLU. -/
def Message.planEnd? : Message → Option Bool
  | .planEnd c => some c
  | _ => none

def execEvalPeriodExpiry (s : State) : Host.Outcome State Fault Refusal :=
  .next (s.onExpiry .evaluation State.evaluateIfWorking)

def execReevaluationRequest (s : State) : Host.Outcome State Fault Refusal :=
  .next (s.awake State.takeReevaluation)

def execStopDelayExpiry (s : State) : Host.Outcome State Fault Refusal :=
  .next (s.onExpiry .stopDelay State.stopDelayExpired)

def execGridStageRaise (s : State) : Host.Outcome State Fault Refusal :=
  .next (s.awake (State.take Message.stageRaiseBlu? (fun _ => State.bluStage)))

def execEnterDark (s : State) : Host.Outcome State Fault Refusal :=
  .next (s.awake (State.take Message.darkBlu? (fun _ => State.bluDark)))

def execGridLiveDeclaration (s : State) : Host.Outcome State Fault Refusal :=
  .next (s.awake (State.take Message.liveBlu? (fun _ => State.bluLive)))

def execPlanStartReport (s : State) : Host.Outcome State Fault Refusal :=
  .next (s.awake (State.take Message.planStart? (fun _ => State.bluPlanStart)))

def execPlanEndReport (s : State) : Host.Outcome State Fault Refusal :=
  .next (s.awake (State.take Message.planEnd? State.bluPlanEnd))

/-! ### GRID_STATUS (R42) -/

/-- The present flag and L, H, Rq and A; while they are absent each place holds FFFFh, which marks an absent
kW value (R42, R186). -/
def resultsBytes : Option Results → List Byte
  | some r => u8 1 ++ u32 r.load ++ i32 r.headroom ++ u32 r.required ++ u32 r.allowance
  | none => u8 0 ++ u32 0xFFFF ++ u32 0xFFFF ++ u32 0xFFFF ++ u32 0xFFFF

/-- The body of the GRID_STATUS response (R42, R186). -/
def State.gridStatusBytes (s : State) : List Byte :=
  u8 s.blu.grid.code ++ resultsBytes s.blu.results ++ u32 s.bus.frequency ++
  (List.finRange 4).flatMap (fun k => flag s.bus.raised[k]) ++ flag s.bus.live ++
  u16 (s.gsq.permitHolder.elim 0 (fun i => handleWord (s.handleOf i)))

def execGridStatus (s : State) : Host.Outcome State Fault Refusal :=
  .next (s.serve .gridStatus (fun s => s.respond .gridStatus .ok s.gridStatusBytes))

end Sys2Proof.Machine
end

