-- ==== Sys2Proof/Machine/Feeder.lean ====
section
/-! DEFINITION. The Shed Unit (chapter 6): the feeder breaker sequence, the choice of feeders to shed,
armed sets, shed batch, holds and reclose, and the steps SHU takes. -/

namespace Sys2Proof.Machine

/-! ### The feeder breaker sequence (section 6.2) -/

/-- SHU hands the Restoration Sequencer an entry to CLOSED or to BREAKER_FAIL (R123). -/
def State.handFeeder (i : SlotIx) (st : FeederState) (s : State) : State :=
  match st with
  | .closed => s.hand (.feederClosed i)
  | .breakerFail => s.hand (.feederFail i)
  | _ => s

/-- A feeder changes state, with its trip cause and its last change time (R102, R123). -/
def State.feederEnter (i : SlotIx) (st : FeederState) (cause : Option TripCause) (s : State) : State :=
  (s.modFeeder i (fun f => { f with state := st, cause := cause, lastChange := s.timeS })).handFeeder
    i st

/-- The pending cause of a feeder is set or discarded (section 6.1). -/
def State.setPendingCause (i : SlotIx) (c : Option TripCause) (s : State) : State :=
  s.modFeeder i (fun f => { f with pendingCause := c })

/-- A feeder leaves OPENING for TRIPPED: the pending cause becomes its trip cause and the confirm
deadline is cancelled (R104). -/
def State.openingDone (i : SlotIx) (s : State) : State :=
  match s.feeder? i with
  | none => s
  | some f =>
    ((s.feederEnter i .tripped f.pendingCause).setPendingCause i none).cancel (.breakerConfirm i)

/-- Whether a trip with a cause raises SHED_EXECUTED (R103). -/
def TripCause.isShed : TripCause → Bool
  | .shedReserve | .shedStage _ => true
  | _ => false

/-- The feeder waits for its status line, or passes on to TRIPPED when that line reads open already
(R103). -/
def State.confirmTrip (i : SlotIx) (f : Feeder) (s : State) : State :=
  match f.statusLine with
  | some l =>
    if s.filtered l then s.setDeadline (.breakerConfirm i) (s.param .confirmTime)
    else s.openingDone i
  | none => s

/-- A trip pulse begins on a feeder, for a cause (R103). -/
def State.tripPulse (i : SlotIx) (c : TripCause) (s : State) : State :=
  match s.feeder? i with
  | none => s
  | some f =>
    let s := (s.leaveArmed i).leaveBatch i
    let s := s.setPendingCause i (some c)
    let s := (s.tripRequest f).feederEnter i .opening none
    let s := s.confirmTrip i f
    if c.isShed then s.raiseSlot NoticeKind.shedExecuted i else s

/-- A close window of a feeder starts: the feeder enters CLOSING, or CLOSED at once when its status
line reads closed already (R105, R170). -/
def State.windowStarted (i : SlotIx) (s : State) : State :=
  match s.feeder? i with
  | none => s
  | some f =>
    match f.closeLine with
    | none => s
    | some c =>
      let s := (s.startWindow c).feederEnter i .closing none
      match f.statusLine with
      | some l =>
        if s.filtered l then s.feederEnter i .closed none
        else s.setDeadline (.breakerConfirm i) (s.param .confirmTime)
      | none => s

/-- A close request of a TRIPPED feeder with a close line; absent when SHU does not make it or LNU
refuses it (R105, R170). With CLOSE_DELAY 0 the window starts together with the request. -/
def State.closeRequest (i : SlotIx) (s : State) : Option State :=
  match s.feeder? i with
  | none => none
  | some f =>
    match f.closeLine with
    | none => none
    | some c =>
      if f.state = .tripped ∧ ¬ s.closeRefused f then
        let s := (s.openWindow c).feederEnter i .closePending none
        some (if s.param .closeDelay = 0 then s.windowStarted i else s)
      else none

/-- A feeder opens without the part having asked (R106). -/
def State.externalTrip (i : SlotIx) (s : State) : State :=
  (((s.leaveArmed i).leaveBatch i).feederEnter i .tripped (some .external)).raiseSlot
    NoticeKind.externalTrip i

/-- The status input of a feeder changes to open (R104, R106). -/
def State.statusOpened (i : SlotIx) (f : Feeder) (s : State) : State :=
  match f.state with
  | .closed | .tripPending => s.externalTrip i
  | .opening => s.openingDone i
  | _ => s

/-- The status input of a feeder changes to closed (R105, R106). -/
def State.statusClosed (i : SlotIx) (f : Feeder) (s : State) : State :=
  match f.state with
  | .tripped => s.feederEnter i .closed none
  | .closing => (s.feederEnter i .closed none).cancel (.breakerConfirm i)
  | _ => s

/-- The feeder whose status role a line serves. -/
def State.statusFeeder (s : State) (l : LineIx) : Option (SlotIx × Feeder) :=
  s.feeders.find? (fun p => p.2.statusLine == some l)

/-- SHU takes a feeder status change (R106, R166). -/
def State.shuStatus (l : LineIx) (closed : Bool) (s : State) : State :=
  match s.statusFeeder l with
  | some (i, f) => if closed then s.statusClosed i f else s.statusOpened i f
  | none => s

/-- The state a feeder's status line shows, as at REGISTER and at a reset: CLOSED, or TRIPPED with
cause UNKNOWN; without a status line, CLOSED (R9, R26). -/
def State.derivedFeeder (s : State) (f : Feeder) : Feeder :=
  let open_ := f.statusLine.any (fun l => !s.filtered l)
  if open_ then { f with state := .tripped, cause := some .unknown }
  else { f with state := .closed, cause := none }

/-! ### Choosing feeders to shed (section 6.3) -/

/-- The selection load of a feeder: the measured load, or the nominal load while no measured load is
present (R13). -/
def Feeder.selectionLoad (f : Feeder) : Nat := f.measured.getD f.nominal

/-- Whether a feeder is a candidate for a selection with window class `w`, the members of `taken`
excluded (R108). -/
def State.isCandidate (s : State) (w : Nat) (taken : List SlotIx) (i : SlotIx) (f : Feeder) : Bool :=
  s.lifecycle? i = some .active && f.sheddable && f.state = .closed && f.hold = 0 && f.cls ≤ w &&
  !s.shu.batch.contains i && !taken.contains i

/-- The order of candidates: ascending class, then descending selection load, then ascending slot
(R109). -/
def shedBefore (a b : SlotIx × Feeder) : Bool :=
  a.2.cls < b.2.cls ||
  (a.2.cls == b.2.cls &&
    (b.2.selectionLoad < a.2.selectionLoad ||
      (a.2.selectionLoad == b.2.selectionLoad && decide (a.1 < b.1))))

/-- The candidates of a selection in the order SHU takes them (R108, R109). -/
def State.candidates (s : State) (w : Nat) (taken : List SlotIx) : List (SlotIx × Feeder) :=
  sortBy shedBefore (s.feeders.filter (fun p => s.isCandidate w taken p.1 p.2))

/-- Take candidates in order until their loads reach the amount. The second part says that they ran
out first, so that the selection is short (R109). -/
def pickUntil : Nat → List (SlotIx × Feeder) → List SlotIx × Bool
  | amount, [] => ([], decide (0 < amount))
  | amount, p :: rest =>
    if amount = 0 then ([], false)
    else
      let r := pickUntil (amount - p.2.selectionLoad) rest
      (p.1 :: r.1, r.2)

/-! ### Armed sets (section 6.5) -/

/-- The members of the armed sets before set `k` (R108). -/
def State.earlierArmed (s : State) (k : StageIx) : List SlotIx :=
  ((List.finRange 4).filter (fun j => j < k)).flatMap (fun j => s.shu.armed[j])

/-- Rebuild armed set `k` for the load of the evaluation handed over (R111). -/
def State.rearm (load : Nat) (k : StageIx) (s : State) : State :=
  let amount := ceilDiv (s.param (.ufShare k) * load) 100
  let picked := pickUntil amount (s.candidates (s.param (.ufWindow k)) (s.earlierArmed k))
  let s := { s with shu := { s.shu with armed := s.shu.armed.set k picked.1 } }
  s.setStageShort k picked.2

/-- Rebuild armed sets 1 to 4 in that order (R111). -/
def State.rearmAll (load : Nat) (s : State) : State := s.each (List.finRange 4) (State.rearm load)

/-- Whether the grid state allows evaluation, armed sets and UF firing (R38). -/
def GridState.works : GridState → Bool
  | .normal | .short | .emergency | .restoring => true
  | .survey | .dark => false

/-- A member of a firing armed set is pulsed when it is still CLOSED with hold count 0 (R112). -/
def State.fireMember (k : StageIx) (i : SlotIx) (s : State) : State :=
  if (s.feeder? i).any (fun f => f.state = .closed && f.hold = 0) then s.tripPulse i (.shedStage k)
  else s

/-- SHU takes a raise of stage `k`: the armed set fires when the grid state allows it, and is then
empty (R112). The pulses begin together; their notices are raised, and their confirm deadlines placed, in the
order of selection (assumption logs 41 and 49). -/
def State.fireStage (k : StageIx) (s : State) : State :=
  if s.blu.grid.works then
    let s := s.each s.shu.armed[k] (State.fireMember k)
    { s with shu := { s.shu with armed := s.shu.armed.set k [] } }
  else s

/-! ### The shed batch (section 6.6) -/

/-- A selected feeder joins the tail of the batch in TRIP_PENDING (R113). -/
def State.joinBatch (i : SlotIx) (s : State) : State :=
  let s := (s.leaveArmed i).feederEnter i .tripPending none
  { s with shu := { s.shu with batch := s.shu.batch ++ [i] } }

/-- The selection loads of the batch, judged now (R113). -/
def State.batchLoad (s : State) : Nat :=
  (s.shu.batch.map (fun i => (s.feeder? i).elim 0 Feeder.selectionLoad)).sum

/-- The delay of the stagger deadline at an append (R113). -/
def State.staggerDelay (s : State) : Nat :=
  match s.shu.lastPulse with
  | some t => s.param .staggerGap - s.since t
  | none => 0

/-- Reserve shedding for an effective shed demand (R113). -/
def State.shedReserve (shed : Nat) (s : State) : State :=
  let wasEmpty := s.shu.batch.isEmpty
  let picked := pickUntil (shed - s.batchLoad) (s.candidates (s.param .reserveWindow) [])
  let s := (s.each picked.1 State.joinBatch).setReserveShort picked.2
  if wasEmpty && !picked.1.isEmpty && !s.isSet .stagger then s.setDeadline .stagger s.staggerDelay
  else s

/-- Whether the head of the batch passes its recheck (R114). -/
def Feeder.passesRecheck (f : Feeder) : Bool :=
  f.state = .tripPending && f.hold = 0 && f.sheddable

/-- A member leaves the batch without a pulse and returns to CLOSED (R115). -/
def State.returnToClosed (i : SlotIx) (s : State) : State :=
  let s := s.leaveBatch i
  if (s.feeder? i).any (fun f => f.state = .tripPending) then s.feederEnter i .closed none else s

/-- The stagger expiry: heads that fail leave the batch until one member has been pulsed or the batch
is empty (R114). Time base S is read as SHU takes the expiry (assumption log 59). The first argument bounds the
number of heads looked at. -/
def State.stagger : Nat → State → State
  | 0, s => s
  | n + 1, s =>
    match s.shu.batch with
    | [] => s
    | i :: _ =>
      if (s.feeder? i).any Feeder.passesRecheck then
        let s := s.tripPulse i .shedReserve
        let s := { s with shu := { s.shu with lastPulse := some s.timeS } }
        if s.shu.batch.isEmpty then s else s.setDeadline .stagger (s.param .staggerGap)
      else State.stagger n (s.returnToClosed i)

/-! ### Reclose (section 6.8) -/

/-- Whether a trip cause is one the reserve rule recloses (R118). -/
def recloseCause : Option TripCause → Bool
  | some c => c.isShed
  | none => false

/-- Whether a feeder may be the reclose candidate (R118). -/
def State.mayReclose (s : State) (i : SlotIx) (f : Feeder) : Bool :=
  s.lifecycle? i = some .active && f.state = .tripped && recloseCause f.cause && f.closeLine.isSome

/-- The reclose candidate: highest class, the lower slot among equals (R118). -/
def State.chooseReclose (s : State) : Option (SlotIx × Feeder) :=
  minBy (fun p => (15 - p.2.cls) * 64 + p.1) (s.feeders.filter (fun p => s.mayReclose p.1 p.2))

/-- The reclose test of a hand-over taken in NORMAL (R118). -/
def State.recloseTest (headroom : Int) (required : Nat) (s : State) : State :=
  match s.chooseReclose with
  | none => s.dropReclose
  | some (i, f) =>
    let pass := decide (headroom - required ≥ f.selectionLoad + s.param .recloseMargin)
    let same := s.shu.recloseCandidate = some i
    let s := { s with shu := { s.shu with recloseCandidate := some i } }
    if pass then
      if same ∧ s.isSet .recloseDelay then s
      else s.setDeadline .recloseDelay (s.param .recloseDelay * 1000)
    else s.cancel .recloseDelay

/-- The reclose delay expiry (R119). -/
def State.recloseExpired (s : State) : State :=
  let s' : State := { s with shu := { s.shu with recloseCandidate := none } }
  match s.shu.recloseCandidate with
  | none => s'
  | some i =>
    if s.blu.grid = .normal ∧ (s.feeder? i).any (s.mayReclose i) then
      (s'.closeRequest i).getD s'
    else s'

/-! ### The hand-over and the announcements SHU takes -/

/-- SHU takes the results of an evaluation: reserve shedding, armed sets, reclose (R110). Each is made where both the
grid state handed over and the one BLU holds at the taking call for it (R38; assumption log 32). -/
def State.shuEvaluation (shed load : Nat) (headroom : Int) (required : Nat) (grid : GridState)
    (s : State) : State :=
  let s := if grid = .emergency ∧ s.blu.grid = .emergency then s.shedReserve shed else s
  let s := if grid.works ∧ s.blu.grid.works then s.rearmAll load else s
  if grid = .normal ∧ s.blu.grid = .normal then s.recloseTest headroom required else s.dropReclose

/-- A feeder's part in the entry to DARK (R34). -/
def State.darkTrip (i : SlotIx) (s : State) : State :=
  match s.feeder? i with
  | none => s
  | some f =>
    match f.state with
    | .closed | .tripPending | .closePending | .closing => s.tripPulse i .dark
    | .opening | .tripped | .breakerFail => s

/-- SHU acts on the entry to DARK: every feeder it can open is pulsed together, the confirm deadlines placed in
ascending slot order (assumption log 49), and the shedding state is discarded (R34). -/
def State.shuDark (s : State) : State :=
  let s := s.each (s.feeders.map Prod.fst) State.darkTrip
  let s := s.each s.shu.batch State.leaveBatch
  let s := { s with shu := { s.shu with armed := Vector.replicate 4 [] } }
  (s.cancel .stagger).dropReclose

/-- SHU takes an announcement of a grid-state change (R34, R40, R110). -/
def State.shuGrid (old new : GridState) (s : State) : State :=
  let s := if old = .normal ∧ new ≠ .normal then s.dropReclose else s
  if new = .dark then s.shuDark else s

/-- The evaluation handed to SHU. -/
def Message.shuEvaluation? : Message → Option (Nat × Nat × Int × Nat × GridState)
  | .shuEvaluation d l h r g => some (d, l, h, r, g)
  | _ => none

/-- The stage raise handed to SHU. -/
def Message.stageRaiseShu? : Message → Option StageIx
  | .stageRaiseShu k => some k
  | _ => none

/-- The grid-state announcement handed to SHU. -/
def Message.gridShu? : Message → Option (GridState × GridState)
  | .gridShu a b => some (a, b)
  | _ => none

/-- The status change handed to SHU. -/
def Message.statusShu? : Message → Option (LineIx × Bool)
  | .statusShu l c _ => some (l, c)
  | _ => none

def execShuEvaluationHandover (s : State) : Host.Outcome State Fault Refusal :=
  .next (s.awake (State.take Message.shuEvaluation?
    (fun p => State.shuEvaluation p.1 p.2.1 p.2.2.1 p.2.2.2.1 p.2.2.2.2)))

def execArmedSetFiring (s : State) : Host.Outcome State Fault Refusal :=
  .next (s.awake (State.take Message.stageRaiseShu? State.fireStage))

def execShuGridStateChange (s : State) : Host.Outcome State Fault Refusal :=
  .next (s.awake (State.take Message.gridShu? (fun p => State.shuGrid p.1 p.2)))

def execFeederStatusChange (s : State) : Host.Outcome State Fault Refusal :=
  .next (s.awake (State.take Message.statusShu? (fun p => State.shuStatus p.1 p.2)))

/-! ### The steps SHU takes at deadlines -/

/-- A stagger expiry looks at each member of the batch at most once (R114). -/
def State.staggerExpired (s : State) : State := s.stagger s.shu.batch.length

/-- The confirm deadline of a feeder expires: its breaker did not follow (R104, R105). -/
def State.confirmExpired (i : SlotIx) (s : State) : State :=
  match s.feeder? i with
  | none => s
  | some f =>
    if f.state = .opening ∨ f.state = .closing then
      ((s.feederEnter i .breakerFail none).setPendingCause i none).raiseSlot NoticeKind.breakerFail i
    else s

def execStaggerExpiry (s : State) : Host.Outcome State Fault Refusal :=
  .next (s.onExpiry .stagger State.staggerExpired)

def execRecloseDelayExpiry (s : State) : Host.Outcome State Fault Refusal :=
  .next (s.onExpiry .recloseDelay State.recloseExpired)

def execBreakerConfirmExpiry (i : SlotIx) (s : State) : Host.Outcome State Fault Refusal :=
  .next (s.onExpiry (.breakerConfirm i) (State.confirmExpired i))

/-! ### The steps LNU hands SHU (R169, R170) -/

/-- The end time of the trip pulse of a feeder, while one is in progress. -/
def State.pulseOf (s : State) (i : SlotIx) : Option Time :=
  (s.feeder? i).bind (fun f => s.lines[f.tripLine].pulse)

/-- The close window of a feeder, while one is pending or active. -/
def State.windowOf (s : State) (i : SlotIx) : Option CloseWindow :=
  ((s.feeder? i).bind Feeder.closeLine).bind (fun c => s.lines[c].window)

/-- A trip pulse ends; a feeder in OPENING without a status line enters TRIPPED (R104, R169). -/
def State.pulseEnded (i : SlotIx) (s : State) : State :=
  match s.feeder? i with
  | none => s
  | some f =>
    let s := s.endPulse f.tripLine
    if f.statusLine.isNone ∧ f.state = .opening then s.openingDone i else s

/-- A close window ends; a feeder in CLOSING without a status line enters CLOSED (R105, R170). -/
def State.windowEnded (i : SlotIx) (s : State) : State :=
  match s.feeder? i with
  | none => s
  | some f =>
    match f.closeLine with
    | none => s
    | some c =>
      let s := s.endWindow c
      if f.statusLine.isNone ∧ f.state = .closing then s.feederEnter i .closed none else s

/-- The trip pulse of a feeder ends at its end time, time running on to it (assumption log 3). -/
def State.tripPulseEnd (i : SlotIx) (s : State) : State :=
  match s.pulseOf i with
  | some e => (s.runTo (s.instantOf e)).pulseEnded i
  | none => s

/-- The pending close window of a feeder starts at its start time. -/
def State.closeWindowStart (i : SlotIx) (s : State) : State :=
  match s.windowOf i with
  | some w => if w.started then s else (s.runTo (s.instantOf w.start)).windowStarted i
  | none => s

/-- The active close window of a feeder ends at its end time. -/
def State.closeWindowEnd (i : SlotIx) (s : State) : State :=
  match s.windowOf i with
  | some w => if w.started then (s.runTo (s.instantOf w.stop)).windowEnded i else s
  | none => s

def execTripPulseEnd (i : SlotIx) (s : State) : Host.Outcome State Fault Refusal :=
  .next (s.awake (State.tripPulseEnd i))

def execCloseWindowStart (i : SlotIx) (s : State) : Host.Outcome State Fault Refusal :=
  .next (s.awake (State.closeWindowStart i))

def execCloseWindowEnd (i : SlotIx) (s : State) : Host.Outcome State Fault Refusal :=
  .next (s.awake (State.closeWindowEnd i))

/-! ### Holds (section 6.7) -/

/-- The slots of the set bits of a mask, ascending. -/
def maskSlots (mask : BitVec 64) : List SlotIx := allSlots.filter (fun i => mask.getLsbD i)

/-- The set bits of a mask that name a feeder, and the count of those that do not (R116). -/
def State.maskFeeders (s : State) (mask : BitVec 64) : List SlotIx × Nat :=
  let l := maskSlots mask
  let named := l.filter (fun i => (s.feeder? i).isSome)
  (named, l.length - named.length)

/-- The hold count of a feeder rises by one, held at 15 (R116). -/
def State.raiseHold (i : SlotIx) (s : State) : State :=
  match s.feeder? i with
  | none => s
  | some f =>
    if 15 ≤ f.hold then s.raiseSlot NoticeKind.holdSaturated i
    else s.modFeeder i (fun f => { f with hold := f.hold + 1 })

/-- A hold is added to a feeder: it leaves the armed sets, and the batch if it is there (R116). -/
def State.addHold (i : SlotIx) (s : State) : State :=
  ((s.raiseHold i).leaveArmed i).returnToClosed i

/-- A hold of a feeder is dropped (R117). -/
def State.dropHold (i : SlotIx) (s : State) : State :=
  match s.feeder? i with
  | none => s
  | some f =>
    if f.hold = 0 then s.raiseSlot NoticeKind.holdSaturated i
    else s.modFeeder i (fun f => { f with hold := f.hold - 1 })

/-- A hold request: each feeder of the mask in turn, in ascending slot order, then the two counts (R116, R117;
assumption log 42). -/
def State.holdRequest (c : Instr) (mask : BitVec 64) (f : SlotIx → State → State) (s : State) : State :=
  let m := s.maskFeeders mask
  (s.each m.1 f).respond c .ok (u8 m.1.length ++ u8 m.2)

def execHoldAdd (mask : BitVec 64) (s : State) : Host.Outcome State Fault Refusal :=
  .next (s.serve (.holdAdd mask) (State.holdRequest (.holdAdd mask) mask State.addHold))

def execHoldDrop (mask : BitVec 64) (s : State) : Host.Outcome State Fault Refusal :=
  .next (s.serve (.holdDrop mask) (State.holdRequest (.holdDrop mask) mask State.dropHold))

/-! ### Host requests (section 6.9) -/

/-- The effect of an accepted TRIP, by the feeder state (R120). -/
def State.hostTrip (i : SlotIx) (f : Feeder) (s : State) : State :=
  match f.state with
  | .opening | .tripped => s
  | _ => s.tripPulse i .host

/-- TRIP of the feeder in a slot, its handle and kind checked (R120). -/
def State.tripRequested (h : Handle) (i : SlotIx) (s : State) : State :=
  match s.feeder? i with
  | none => s
  | some f =>
    if s.blu.grid = .survey then s.refuse (.trip h) .state
    else (s.hostTrip i f).respond (.trip h) .ok []

/-- RECLOSE of the feeder in a slot, its handle and kind checked (R121). -/
def State.recloseRequested (h : Handle) (i : SlotIx) (s : State) : State :=
  match s.feeder? i with
  | none => s
  | some f =>
    if ¬ (s.blu.grid = .normal ∨ s.blu.grid = .short) ∨ f.state ≠ .tripped ∨ f.closeLine.isNone then
      s.refuse (.reclose h) .state
    else
      match s.closeRequest i with
      | some s' => s'.respond (.reclose h) .ok []
      | none => s.refuse (.reclose h) .busy

/-- A feeder in BREAKER_FAIL has its state derived anew from its status line (R122). -/
def State.clearFault (i : SlotIx) (f : Feeder) (s : State) : State :=
  let d := s.derivedFeeder f
  s.feederEnter i d.state d.cause

/-- CLEAR_FAULT of the feeder in a slot, its handle and kind checked (R122). -/
def State.clearFaultRequested (h : Handle) (i : SlotIx) (s : State) : State :=
  match s.feeder? i with
  | none => s
  | some f =>
    if f.state = .breakerFail then (s.clearFault i f).respond (.clearFault h) .ok []
    else s.refuse (.clearFault h) .state

def execTrip (h : Handle) (s : State) : Host.Outcome State Fault Refusal :=
  .next (s.serve (.trip h) (State.withKind (.trip h) h .feeder (State.tripRequested h)))

def execReclose (h : Handle) (s : State) : Host.Outcome State Fault Refusal :=
  .next (s.serve (.reclose h) (State.withKind (.reclose h) h .feeder (State.recloseRequested h)))

def execClearFault (h : Handle) (s : State) : Host.Outcome State Fault Refusal :=
  .next (s.serve (.clearFault h)
    (State.withKind (.clearFault h) h .feeder (State.clearFaultRequested h)))

/-! ### The plan's close request (R123) -/

/-- SHU's answer to a close request of the plan (R123). -/
inductive CloseAnswer where
  | begun (s : State)
  | alreadyClosed
  | cannot
deriving DecidableEq, Repr

/-- SHU answers a close request of a CLOSE_FEEDER step by the feeder's state (R123). -/
def State.planClose (i : SlotIx) (s : State) : CloseAnswer :=
  match s.feeder? i with
  | none => .cannot
  | some f =>
    if f.state = .closed then .alreadyClosed
    else match s.closeRequest i with
      | some s' => .begun s'
      | none => .cannot

end Sys2Proof.Machine
end

