-- ==== Sys2Proof/Machine/Plan.lean ====
section
/-! DEFINITION. The Restoration Sequencer (chapter 7): the stored plan, its check, the working of its
steps, pausing, ending, and the steps RSQ takes. -/

namespace Sys2Proof.Machine

/-! ### The plan and its check (sections 7.1 and 7.2) -/

/-- Every position, ascending. -/
def allPositions : List PosIx := List.finRange 32

/-- The positions below the length (R125). -/
def State.planPositions (s : State) : List PosIx :=
  allPositions.filter (fun p => p.val < s.rsq.length)

/-- The kind of record a step acts on (section 7.1). -/
def StepAction.kind : StepAction → Option Kind
  | .startGenset _ _ => some .genset
  | .closeFeeder _ => some .feeder
  | .releasePv _ _ => some .pv
  | .settle _ | .gateReserve _ => none

/-- Whether a handle resolves to a record of a kind that is not RETIRING (R129). -/
def State.targetFits (s : State) (h : Handle) (k : Kind) : Bool :=
  (s.resolve h).any (fun i => (s.record? i).any (fun r =>
    r.body.kind == k && r.lifecycle != .retiring))

/-- Whether a handle names a genset with a permit line (R129). -/
def State.hasPermitLine (s : State) (h : Handle) : Bool :=
  ((s.resolve h).bind s.genset?).any (fun g => g.permitLine.isSome)

/-- The step check of a step (R129). -/
def State.stepFits (s : State) (x : PlanStep) : Bool :=
  match x.action with
  | .startGenset h dead => s.targetFits h .genset && (!dead || s.hasPermitLine h)
  | .closeFeeder h => s.targetFits h .feeder
  | .releasePv h _ => s.targetFits h .pv
  | .settle _ | .gateReserve _ => true

/-- The step check of a position: it holds a step, and the step passes (R129). -/
def State.stepCheck (s : State) (p : PosIx) : Bool := s.rsq.steps[p].any s.stepFits

/-- Whether a position holds a START_GENSET step. -/
def State.startsGenset (s : State) (p : PosIx) : Bool :=
  s.rsq.steps[p].any (fun x => match x.action with
    | .startGenset _ _ => true
    | _ => false)

/-- Whether a position holds a START_GENSET step whose dead-bus flag is clear. -/
def State.startsLive (s : State) (p : PosIx) : Bool :=
  s.rsq.steps[p].any (fun x => match x.action with
    | .startGenset _ dead => !dead
    | _ => false)

/-- The first START_GENSET position below the length. -/
def State.firstStart (s : State) : Option PosIx := s.planPositions.find? s.startsGenset

/-- The first failing position of the plan check (R129). -/
def State.firstFailing (s : State) : Option PosIx :=
  s.planPositions.find? (fun p =>
    !s.stepCheck p || (s.firstStart = some p && s.startsLive p))

/-- Whether the plan check passes (R129). -/
def State.planPasses (s : State) : Bool := decide (1 ≤ s.rsq.length) && s.firstFailing.isNone

/-- Whether the plan is RUNNING or PAUSED. -/
def State.planBusy (s : State) : Bool := s.rsq.state = .running || s.rsq.state = .paused

/-! ### What RSQ writes -/

/-- Change what RSQ holds. -/
def State.modRsq (f : Restoration → Restoration) (s : State) : State := { s with rsq := f s.rsq }

/-- Give a position its status. -/
def State.setStatus (p : PosIx) (st : StepStatus) (s : State) : State :=
  s.modRsq (fun r => { r with status := r.status.set p st })

/-- The step at the cursor. -/
def State.cursorStep (s : State) : Option PlanStep := s.rsq.steps[s.rsq.cursor]

/-- The step at the cursor while it is ACTIVE in a plan RUNNING or PAUSED. -/
def State.activeStep (s : State) : Option PlanStep :=
  if s.planBusy ∧ s.rsq.status[s.rsq.cursor] = .active then s.cursorStep else none

/-- Whether the plan is RUNNING in the grid state that lets it work its steps (R38, R132). -/
def State.planWorks (s : State) : Bool := s.rsq.state = .running && s.blu.grid = .restoring

/-! ### Ending a run (R133, R134, R142) -/

/-- Cancel the step timeout and the step settle (R134, R142). -/
def State.cancelStep (s : State) : State := (s.cancel .stepTimeout).cancel .stepSettle

/-- The plan ends FAILED: caps removed, FAILED reported (R134, R142). -/
def State.failPlan (s : State) : State :=
  ((s.modRsq (fun r => { r with state := .failed })).dropCaps).hand (.planEnd false)

/-- The plan is COMPLETE (R133). A resume wait still running is cancelled with the step settle (assumption log 54). -/
def State.completePlan (s : State) : State :=
  let s := (s.modRsq (fun r => { r with state := .complete })).cancelStep
  (s.dropCaps.raise NoticeKind.planComplete none).hand (.planEnd true)

/-- The cursor moves on by one, or the plan is COMPLETE with the cursor left at the last position. The
second part says that the cursor has moved to a next step (R133). -/
def State.moveOn (s : State) : State × Bool :=
  if h : s.rsq.cursor.val + 1 < 32 ∧ s.rsq.cursor.val + 1 < s.rsq.length then
    (s.modRsq (fun r => { r with cursor := ⟨s.rsq.cursor.val + 1, h.1⟩ }), true)
  else (s.completePlan, false)

/-- How the step at the cursor ends. -/
inductive StepEnd where
  | done | failed
deriving DecidableEq, Repr

/-- The step at the cursor is DONE: its timeout is cancelled and a re-evaluation asked for (R133). -/
def State.stepDone (s : State) : State :=
  ((s.setStatus s.rsq.cursor .done).cancel .stepTimeout).askReevaluation

/-- The notice of a failed step, with the position (R134). -/
def State.noticeStep (s : State) : State :=
  s.raise NoticeKind.planStepFailed (some s.rsq.cursor)

/-- The step at the cursor ends and the cursor moves on, or the plan ends (R133, R134). A failure cancels the
step timeout and the step settle, and in PAUSED the resume wait with it, which is the same deadline
(assumption log 17). -/
def State.endStep (e : StepEnd) (s : State) : State × Bool :=
  match e with
  | .done => s.stepDone.moveOn
  | .failed =>
    let skip := s.cursorStep.any (fun x => x.onFailure == .skip)
    if skip then ((s.setStatus s.rsq.cursor .skipped).cancelStep.noticeStep).moveOn
    else (((s.setStatus s.rsq.cursor .failed).cancelStep.noticeStep).failPlan, false)

/-! ### The kinds of step (R135 to R139) -/

/-- RSQ gives the start order of a START_GENSET step (R135). -/
def State.giveOrder (i : SlotIx) (s : State) : State :=
  (s.modRsq (fun r => { r with orderGiven := true })).planStartOrder i

/-- Whether a frequency lies within NOMINAL ± LIVE_BAND, ends included (R138). -/
def State.inBand (s : State) (f : Nat) : Bool :=
  decide (s.param .nominal ≤ f + s.param .liveBand) &&
  decide (f ≤ s.param .nominal + s.param .liveBand)

/-- The step settle of a SETTLE step is set, when the live view is set, the frequency lies within the
band and none runs (R138). -/
def State.startSettle (ms f : Nat) (s : State) : State :=
  if s.rsq.live && s.inBand f && !s.isSet .stepSettle then s.setDeadline .stepSettle ms else s

/-- A START_GENSET step at its activation or at a resume (R135, R141). -/
def State.workStart (i : SlotIx) (dead : Bool) (s : State) : State :=
  if dead || s.rsq.live then s.giveOrder i else s

/-- RSQ sets a plan cap, and BLU lowers a setpoint above it (R137). -/
def State.setCap (i : SlotIx) (cap : Nat) (s : State) : State :=
  s.modPv i (fun p => { p with planCap := some cap, setpoint := min p.setpoint cap })

/-- The action of a step at its activation, with the end it reaches at once, if it does (R135 to
R139). -/
def State.beginAction (x : PlanStep) (s : State) : State × Option StepEnd :=
  match x.action with
  | .startGenset h dead =>
    match (s.resolve h).bind (fun i => (s.genset? i).map (fun g => (i, g))) with
    | none => (s, some .failed)
    | some (i, g) =>
      if g.state = .online then (s, some .done)
      else if g.state = .lockout ∨ g.fault = true then (s, some .failed)
      else (s.workStart i dead, none)
  | .closeFeeder h =>
    match (s.resolve h).bind s.feeder? with
    | none => (s, some .failed)
    | some f =>
      if f.state = .closed then (s, some .done)
      else if f.state = .breakerFail ∨ f.closeLine.isNone then (s, some .failed)
      else (s, none)
  | .releasePv h cap =>
    match s.resolve h with
    | none => (s, some .failed)
    | some i => (s.setCap i cap, none)
  | .settle ms => (s.startSettle ms s.bus.frequency, none)
  | .gateReserve _ => (s, none)

/-- Set the step timeout of a step that has one (R133). -/
def State.setTimeout (x : PlanStep) (s : State) : State :=
  if x.timeout = 0 then s else s.setDeadline .stepTimeout (x.timeout * 1000)

/-- The step at the cursor becomes ACTIVE and begins its action, after its step check when it was
written since the start (R129, R133). -/
def State.beginStep (s : State) : State × Option StepEnd :=
  let p := s.rsq.cursor
  let checked := !s.rsq.written[p] || s.stepCheck p
  let s := (s.setStatus p .active).modRsq (fun r => { r with orderGiven := false, closeMade := false })
  match s.cursorStep with
  | none => (s, some .failed)
  | some x =>
    let s := s.setTimeout x
    if checked then s.beginAction x else (s, some .failed)

/-- RSQ activates the step at the cursor, and the steps after it while each ends at once (R133). The
first argument bounds the number of activations. -/
def State.activate : Nat → State → State
  | 0, s => s
  | n + 1, s =>
    if s.planWorks then
      match s.beginStep with
      | (s, none) => s
      | (s, some e) =>
        match s.endStep e with
        | (s, true) => State.activate n s
        | (s, false) => s
    else s

/-- The step at the cursor ends, and the next is activated in the same event while the plan works its
steps (R133, R134). -/
def State.finish (e : StepEnd) (s : State) : State :=
  match s.endStep e with
  | (s, true) => s.activate 32
  | (s, false) => s

/-! ### Starting, pausing and ending a run (R131, R132, R140, R142) -/

/-- Whether the stage view holds a stage. -/
def State.stageSeen (s : State) : Bool := (List.finRange 4).any (fun k => s.rsq.stageView[k])

/-- The plan passes from RUNNING to PAUSED (R140). -/
def State.pausePlan (s : State) : State :=
  (s.modRsq (fun r => { r with state := .paused })).cancelStep

/-- The plan starts (R132). -/
def State.startPlan (s : State) : State :=
  let s := s.modRsq (fun r =>
    { r with state := .running, cursor := 0, status := Vector.replicate 32 .pending,
             written := Vector.replicate 32 false, orderGiven := false, closeMade := false })
  let s := s.hand .planStart
  if s.stageSeen then s.pausePlan else s

/-- RSQ ends a run at PLAN_ABORT or at a dark declaration (R142). -/
def State.abortPlan (s : State) : State :=
  let p := s.rsq.cursor
  let s := if s.rsq.status[p] = .active then s.setStatus p .failed else s
  s.cancelStep.failPlan

/-- The plan is overtaken by a live grid (R132). -/
def State.overtakePlan (s : State) : State :=
  ((s.setStatus s.rsq.cursor .failed).cancelStep.noticeStep).failPlan

/-! ### What RSQ takes from other blocks -/

/-- Whether the active step names the record in a slot as its target for an action picked by `sel`. -/
def State.activeTargets (s : State) (i : SlotIx) (k : Kind) : Bool :=
  s.activeStep.any (fun x => x.action.kind == some k &&
    x.action.target.any (fun h => s.resolve h == some i))

/-- RSQ takes the end of a step that concerns a record (R135, R136). -/
def State.rsqEvent (i : SlotIx) (k : Kind) (e : StepEnd) (s : State) : State :=
  if s.activeTargets i k then s.finish e else s

/-- The condition of a CLOSE_FEEDER step at a hand-over (R136). -/
def State.testClose (h : Handle) (headroom : Int) (s : State) : State :=
  match (s.resolve h).bind (fun i => (s.feeder? i).map (fun f => (i, f))) with
  | none => s
  | some (i, f) =>
    if s.planWorks ∧ s.rsq.closeMade = false ∧
        ((f.selectionLoad + s.param .recloseMargin : Nat) : Int) ≤ headroom then
      match s.planClose i with
      | .begun s' => s'.modRsq (fun r => { r with closeMade := true })
      | .alreadyClosed => s.finish .done
      | .cannot =>
        if f.state = .breakerFail ∨ f.closeLine.isNone then s.finish .failed else s
    else s

/-- RSQ takes the results of an evaluation: the step active at that moment tests its condition (R136,
R137, R139). -/
def State.rsqEvaluation (headroom : Int) (caps : List CapResult) (s : State) : State :=
  match s.activeStep with
  | none => s
  | some x =>
    match x.action with
    | .closeFeeder h => s.testClose h headroom
    | .gateReserve kw =>
      if s.rsq.state = .running ∧ (kw : Int) ≤ headroom then s.finish .done else s
    | .releasePv h _ =>
      if (s.resolve h).any (fun i => caps.any (fun c => c.slot == i)) then s.finish .done else s
    | .startGenset _ _ | .settle _ => s

/-- RSQ takes a stage raise (R140). -/
def State.rsqStageRaise (k : StageIx) (s : State) : State :=
  let s := s.modRsq (fun r => { r with stageView := r.stageView.set k true })
  match s.rsq.state with
  | .running => s.pausePlan
  | .paused => s.cancel .stepSettle
  | .idle | .complete | .failed => s

/-- RSQ takes a stage clear; when the view becomes empty in PAUSED the resume wait is set (R140,
R141). -/
def State.rsqStageClear (k : StageIx) (s : State) : State :=
  let seen := s.stageSeen
  let s := s.modRsq (fun r => { r with stageView := r.stageView.set k false })
  if s.rsq.state = .paused ∧ seen = true ∧ s.stageSeen = false then
    s.setDeadline .stepSettle (s.param .resumeSettle * 1000)
  else s

/-- RSQ takes an announcement of a grid-state change (R132, R137). -/
def State.rsqGrid (old new : GridState) (s : State) : State :=
  let s := if old = .restoring then s.dropCaps else s
  match old, new with
  | _, .restoring =>
    if s.rsq.status[s.rsq.cursor] = .pending then s.activate 32 else s
  | .dark, .normal | .dark, .short | .dark, .emergency => if s.planBusy then s.overtakePlan else s
  | _, _ => s

/-- RSQ takes a dark declaration (R131, R140, R142). The settle is counted from the taking (assumption log 57). -/
def State.rsqDark (s : State) : State :=
  let s := s.modRsq (fun r => { r with live := false, stageView := Vector.replicate 4 false })
  let s := if s.planBusy then s.noticeStep.abortPlan else s
  s.setDeadline .darkSettle (s.param .darkSettle * 1000)

/-- The start order of an active START_GENSET step that has not been given (R135, R141). -/
def State.lateOrder (x : PlanStep) (s : State) : State :=
  match x.action with
  | .startGenset h dead =>
    match s.resolve h with
    | some i => if s.planWorks && !s.rsq.orderGiven then s.workStart i dead else s
    | none => s
  | _ => s

/-- The settle of an active SETTLE step is set when it may be (R138). -/
def State.lateSettle (x : PlanStep) (s : State) : State :=
  match x.action with
  | .settle ms => if s.rsq.state = .running then s.startSettle ms s.bus.frequency else s
  | _ => s

/-- RSQ takes a LIVE declaration (R135, R138). -/
def State.rsqLive (s : State) : State :=
  let s := s.modRsq (fun r => { r with live := true })
  match s.activeStep with
  | some x => (s.lateOrder x).lateSettle x
  | none => s

/-- RSQ takes a frequency value (R138). -/
def State.rsqFrequency (f : Nat) (s : State) : State :=
  match s.activeStep with
  | some { action := .settle ms, .. } =>
    if s.rsq.state = .running then
      if s.inBand f then s.startSettle ms f else s.cancel .stepSettle
    else s
  | _ => s

/-- The step timeout expires (R134). -/
def State.timeoutExpired (s : State) : State :=
  if s.activeStep.isSome then s.finish .failed else s

/-- The step settle of a SETTLE step expires (R138). -/
def State.settleExpired (s : State) : State :=
  match s.activeStep with
  | some { action := .settle _, .. } => if s.rsq.state = .running then s.finish .done else s
  | _ => s

/-- The resume wait expires: the plan returns to RUNNING with the same cursor (R141). -/
def State.resumeExpired (s : State) : State :=
  let s := s.modRsq (fun r => { r with state := .running })
  match s.rsq.status[s.rsq.cursor], s.cursorStep with
  | .active, some x => ((s.setTimeout x).lateOrder x).lateSettle x
  | .pending, _ => s.activate 32
  | _, _ => s

/-- The dark settle expires: auto-run (R131). -/
def State.darkSettleExpired (s : State) : State :=
  if s.rsq.autoRun ∧ ¬ s.planBusy ∧ s.blu.grid = .dark ∧ s.rsq.live = false then
    if s.planPasses then s.startPlan
    else s.raise NoticeKind.planStepFailed (s.firstFailing.map Fin.val)
  else s

/-- The evaluation handed to RSQ. -/
def Message.rsqEvaluation? : Message → Option (Int × List CapResult)
  | .rsqEvaluation h c => some (h, c)
  | _ => none

/-- The stage raise handed to RSQ. -/
def Message.stageRaiseRsq? : Message → Option StageIx
  | .stageRaiseRsq k => some k
  | _ => none

/-- The stage clear handed to RSQ. -/
def Message.stageClearRsq? : Message → Option StageIx
  | .stageClearRsq k => some k
  | _ => none

/-- The grid-state announcement handed to RSQ. -/
def Message.gridRsq? : Message → Option (GridState × GridState)
  | .gridRsq a b => some (a, b)
  | _ => none

/-- The dark declaration handed to RSQ. -/
def Message.darkRsq? : Message → Option Unit
  | .darkRsq => some ()
  | _ => none

/-- The LIVE declaration handed to RSQ. -/
def Message.liveRsq? : Message → Option Unit
  | .liveRsq => some ()
  | _ => none

/-- The entry to ONLINE handed to RSQ. -/
def Message.gensetOnline? : Message → Option SlotIx
  | .gensetOnline i => some i
  | _ => none

/-- The entry to LOCKOUT handed to RSQ. -/
def Message.gensetLockout? : Message → Option SlotIx
  | .gensetLockout i => some i
  | _ => none

/-- The entry to CLOSED handed to RSQ. -/
def Message.feederClosed? : Message → Option SlotIx
  | .feederClosed i => some i
  | _ => none

/-- The entry to BREAKER_FAIL handed to RSQ. -/
def Message.feederFail? : Message → Option SlotIx
  | .feederFail i => some i
  | _ => none

/-- The frequency value handed to RSQ. -/
def Message.frequency? : Message → Option Nat
  | .frequency f => some f
  | _ => none

def execRsqEvaluationHandover (s : State) : Host.Outcome State Fault Refusal :=
  .next (s.awake (State.take Message.rsqEvaluation? (fun p => State.rsqEvaluation p.1 p.2)))

def execPlanPause (s : State) : Host.Outcome State Fault Refusal :=
  .next (s.awake (State.take Message.stageRaiseRsq? State.rsqStageRaise))

def execRsqStageClear (s : State) : Host.Outcome State Fault Refusal :=
  .next (s.awake (State.take Message.stageClearRsq? State.rsqStageClear))

def execRsqGridStateChange (s : State) : Host.Outcome State Fault Refusal :=
  .next (s.awake (State.take Message.gridRsq? (fun p => State.rsqGrid p.1 p.2)))

def execRsqDarkDeclaration (s : State) : Host.Outcome State Fault Refusal :=
  .next (s.awake (State.take Message.darkRsq? (fun _ => State.rsqDark)))

def execRsqLiveDeclaration (s : State) : Host.Outcome State Fault Refusal :=
  .next (s.awake (State.take Message.liveRsq? (fun _ => State.rsqLive)))

def execRsqGensetOnline (s : State) : Host.Outcome State Fault Refusal :=
  .next (s.awake (State.take Message.gensetOnline? (fun i => State.rsqEvent i .genset .done)))

def execRsqGensetLockout (s : State) : Host.Outcome State Fault Refusal :=
  .next (s.awake (State.take Message.gensetLockout? (fun i => State.rsqEvent i .genset .failed)))

def execRsqFeederClosed (s : State) : Host.Outcome State Fault Refusal :=
  .next (s.awake (State.take Message.feederClosed? (fun i => State.rsqEvent i .feeder .done)))

def execRsqFeederBreakerFail (s : State) : Host.Outcome State Fault Refusal :=
  .next (s.awake (State.take Message.feederFail? (fun i => State.rsqEvent i .feeder .failed)))

def execRsqFrequencyUpdate (s : State) : Host.Outcome State Fault Refusal :=
  .next (s.awake (State.take Message.frequency? State.rsqFrequency))

def execStepTimeoutExpiry (s : State) : Host.Outcome State Fault Refusal :=
  .next (s.onExpiry .stepTimeout State.timeoutExpired)

/-- The expiry of the step settle is the end of a SETTLE step unless the plan is PAUSED (R138, R141). -/
def execStepSettleExpiry (s : State) : Host.Outcome State Fault Refusal :=
  .next (if s.rsq.state = .paused then s else s.onExpiry .stepSettle State.settleExpired)

/-- The expiry of the step settle is the resume wait while the plan is PAUSED (R141). -/
def execResumeWaitExpiry (s : State) : Host.Outcome State Fault Refusal :=
  .next (if s.rsq.state = .paused then s.onExpiry .stepSettle State.resumeExpired else s)

def execDarkSettleExpiry (s : State) : Host.Outcome State Fault Refusal :=
  .next (s.onExpiry .darkSettle State.darkSettleExpired)

/-! ### The host's plan requests (R126 to R130, R142) -/

/-- PLAN_RUN (R130). -/
def State.planRunRequest (s : State) : State :=
  if s.blu.grid ≠ .dark then s.refuse .planRun .state
  else if s.planBusy then s.refuse .planRun .planRunning
  else if s.planPasses then s.startPlan.respond .planRun .ok []
  else s.respond .planRun .badPlan (u8 (s.firstFailing.elim 0xFF Fin.val))

/-- PLAN_ABORT (R142). -/
def State.planAbortRequest (s : State) : State :=
  if s.planBusy then s.abortPlan.respond .planAbort .ok [] else s.refuse .planAbort .state

/-- PLAN_SET (R127). -/
def State.planSetRequest (length autoRun : Nat) (s : State) : State :=
  let c : Instr := .planSet length autoRun
  if 32 < length ∨ 1 < autoRun then s.refuse c .outOfRange
  else if s.planBusy ∧ length ≠ s.rsq.length then s.refuse c .planRunning
  else (s.modRsq (fun r => { r with length := length, autoRun := autoRun = 1 })).respond c .ok []

/-- The entries of a PLAN_QUERY response, from the start position (R128). -/
def State.planEntries (s : State) (first : Nat) : List Byte :=
  ((allPositions.filter (fun p => first ≤ p.val)).take 16).flatMap
    (fun p => stepBytes s.free (5 + 10 * (p.val - first)) p s.rsq.steps[p] s.rsq.status[p])

/-- PLAN_QUERY (R128). -/
def State.planQueryRequest (first : Nat) (s : State) : State :=
  if 31 < first then s.refuse (.planQuery first) .outOfRange
  else
    s.respond (.planQuery first) .ok
      (u8 s.rsq.length ++ flag s.rsq.autoRun ++ u8 s.rsq.state.code ++ u8 s.rsq.cursor ++
        u8 (min 16 (32 - first)) ++ s.planEntries first)

/-- The action a PLAN_WRITE_STEP gives, by its kind and value, absent when one of them lies outside its
range (R126). A target handle that is absent is taken as the handle 0 until it has been checked. -/
def stepActionOf (kind : Nat) (target : Option Handle) (value : Nat) : Option StepAction :=
  let h := target.getD { slot := 0, gen := 0 }
  match kind with
  | 1 => if value ≤ 1 then some (.startGenset h (value = 1)) else none
  | 2 => some (.closeFeeder h)
  | 3 => if value ≤ 5000 then some (.releasePv h value) else none
  | 4 => if value ≤ 60000 then some (.settle value) else none
  | 5 => if value ≤ 20000 then some (.gateReserve value) else none
  | _ => none

/-- The step a PLAN_WRITE_STEP gives, when its fields lie in their ranges (R126). -/
def planStepOf (kind : Nat) (target : Option Handle) (value timeout onFailure : Nat) : Option PlanStep :=
  match stepActionOf kind target value, OnFailure.ofCode onFailure with
  | some a, some f => if timeout ≤ 600 then some { action := a, timeout := timeout, onFailure := f } else none
  | _, _ => none

/-- The checks of a target, in the order of R126: it resolves, it is of the step's kind, and it is not
RETIRING. -/
def State.targetRefusal (s : State) (h : Handle) (k : Kind) : Option Status :=
  match (s.resolve h).bind s.record? with
  | none => some .badHandle
  | some r =>
    if r.body.kind ≠ k then some .badKind
    else if r.lifecycle = .retiring then some .planReference else none

/-- The refusal of a step or of the empty form for a position, by checks 2 to 6 of R126. -/
def State.writeRefusal (s : State) (p : PosIx) (target : Option Handle) (x : Option PlanStep) :
    Option Status :=
  let kind := x.bind (fun x => x.action.kind)
  if x.isSome ∧ target.isSome ≠ kind.isSome then some .malformed
  else if s.planBusy ∧ (p ≤ s.rsq.cursor ∨ (x.isNone ∧ p.val < s.rsq.length)) then some .planRunning
  else
    match kind, target with
    | some k, some h => s.targetRefusal h k
    | _, _ => none

/-- An accepted PLAN_WRITE_STEP (R126). -/
def State.writeStep (p : PosIx) (x : Option PlanStep) (s : State) : State :=
  let busy := s.planBusy
  s.modRsq (fun r =>
    { r with steps := r.steps.set p x, status := r.status.set p .pending,
             written := if busy then r.written.set p true else r.written })

/-- The form a PLAN_WRITE_STEP carries: the empty form, a step, or, with a field out of its range,
neither (R126). The other fields of the empty form, and the value of CLOSE_FEEDER, are not checked
(assumption log 43). -/
def writeForm (kind : Nat) (target : Option Handle) (value timeout onFailure : Nat) :
    Option (Option PlanStep) :=
  if kind = 0 then some none else (planStepOf kind target value timeout onFailure).map some

/-- PLAN_WRITE_STEP (R126). -/
def State.planWriteRequest (position kind : Nat) (target : Option Handle)
    (value timeout onFailure : Nat) (s : State) : State :=
  let c : Instr := .planWriteStep position kind target value timeout onFailure
  if hp : position < 32 then
    match writeForm kind target value timeout onFailure with
    | none => s.refuse c .outOfRange
    | some x =>
      match s.writeRefusal ⟨position, hp⟩ target x with
      | some e => s.refuse c e
      | none => (s.writeStep ⟨position, hp⟩ x).respond c .ok []
  else s.refuse c .outOfRange

def execPlanWriteStep (position kind : Nat) (target : Option Handle) (value timeout onFailure : Nat)
    (s : State) : Host.Outcome State Fault Refusal :=
  .next (s.serve (.planWriteStep position kind target value timeout onFailure)
    (State.planWriteRequest position kind target value timeout onFailure))

def execPlanSet (length autoRun : Nat) (s : State) : Host.Outcome State Fault Refusal :=
  .next (s.serve (.planSet length autoRun) (State.planSetRequest length autoRun))

def execPlanRun (s : State) : Host.Outcome State Fault Refusal :=
  .next (s.serve .planRun State.planRunRequest)

def execPlanAbort (s : State) : Host.Outcome State Fault Refusal :=
  .next (s.serve .planAbort State.planAbortRequest)

def execPlanQuery (first : Nat) (s : State) : Host.Outcome State Fault Refusal :=
  .next (s.serve (.planQuery first) (State.planQueryRequest first))

end Sys2Proof.Machine
end

