-- ==== Sys2Proof/Machine/Bus.lean ====
section
/-! DEFINITION. The Bus Monitor (chapter 3): edges, frequency, under-frequency stages, dark, zero-cross
loss and live; and the changes of the pins that the Line Unit filters (sections 9.4). -/

namespace Sys2Proof.Machine

/-- Change what BMN holds. -/
def State.modBus (f : BusMonitor → BusMonitor) (s : State) : State := { s with bus := f s.bus }

/-! ### Stages (section 3.4) -/

/-- Every stage, ascending. -/
def allStages : List StageIx := List.finRange 4

/-- A stage is raised: the flag is set and the raise handed to BLU with a request for re-evaluation, to
SHU, to RSQ and to NTU (R48). -/
def State.stageRaise (k : StageIx) (s : State) : State :=
  let s := s.modBus (fun b => { b with raised := b.raised.set k true })
  let s := ((s.hand (.stageRaiseBlu k)).askReevaluation.hand (.stageRaiseShu k)).hand (.stageRaiseRsq k)
  s.raise NoticeKind.stageRaised (some (k + 1))

/-- A stage clears: the flag is cleared and the clear handed to BLU as a request for re-evaluation and
to RSQ (R49). -/
def State.stageClear (k : StageIx) (s : State) : State :=
  let s := s.modBus (fun b => { b with raised := b.raised.set k false })
  s.askReevaluation.hand (.stageClearRsq k)

/-- A stage whose flag is clear is tested against its threshold at a frequency update (R47). -/
def State.testThreshold (k : StageIx) (s : State) : State :=
  if s.bus.frequency < s.param (.ufThreshold k) then
    if s.isSet (.ufStage k) then s
    else if s.param (.ufDelay k) = 0 then s.stageRaise k
    else s.setDeadline (.ufStage k) (s.param (.ufDelay k))
  else s.cancel (.ufStage k)

/-- A stage whose flag is raised is tested for clearing at a frequency update (R49). -/
def State.testClear (k : StageIx) (s : State) : State :=
  if s.param (.ufThreshold k) + s.param (.ufHysteresis k) ≤ s.bus.frequency then s.stageClear k else s

/-- The stage rules for one stage at a frequency update (R47, R49). -/
def State.testStage (k : StageIx) (s : State) : State :=
  if s.bus.raised[k] then s.testClear k else s.testThreshold k

/-! ### Edges and the frequency (sections 3.2 and 3.3) -/

/-- The frequency four periods give: 40 000 000 000 / P4 rounded half up, and 40 000 for a span above
1 000 000 counts (R45). -/
def frequencyOf (p4 : Nat) : Nat :=
  if Config.maxSpan < p4 then 40000 else (Config.freqScale + p4 / 2) / p4

/-- A frequency update from the oldest and newest stamp: the value replaces the frequency, a freeze
ends, the stages are tested and the value goes to RSQ (R45, R55). The stages are worked in one ascending pass, which
orders the delays it places (assumption log 49) and its clears and raises (assumption log 52). -/
def State.frequencyUpdate (oldest newest : Time) (s : State) : State :=
  let f := frequencyOf (newest - oldest).toNat
  let s := s.modBus (fun b => { b with frequency := f, freeze := false })
  (s.each allStages State.testStage).hand (.frequency f)

/-- The span test looks four places back: the oldest entry of four, the second oldest of five (R44). -/
def fourBack : List Time → Option Time
  | [a, _, _, _] => some a
  | [_, b, _, _, _] => some b
  | _ => none

/-- The filter time of the ZERO_CROSS_IN line in counts (R44). -/
def State.zeroCrossFilter (s : State) : Nat :=
  (s.zeroCrossLine.elim 0 (fun l => s.lines[l].filter)) * Config.countsPerUs

/-- Whether an edge is discarded as a glitch (R44). -/
def State.isGlitch (t : Time) (s : State) : Bool :=
  s.bus.history.getLast?.any (fun n => decide ((t - n).toNat < s.zeroCrossFilter)) ||
  (fourBack s.bus.history).any (fun o => decide ((t - o).toNat < Config.minSpan))

/-- The history after an accepted edge: at most five stamps, the oldest leaving first (R44). -/
def joinHistory (t : Time) (l : List Time) : List Time :=
  if 5 ≤ l.length then l.tail ++ [t] else l ++ [t]

/-- The live hold is started at an accepted edge that finds LIVE clear and the hold not running (R44,
R56). -/
def State.startLiveHold (s : State) : State :=
  if !s.bus.live && !s.isSet .liveHold then s.setDeadline .liveHold (s.param .liveHold) else s

/-- What an accepted edge does once it has joined the history (R44). -/
def State.edgeAccepted (t : Time) (s : State) : State :=
  let s := s.modBus (fun b => { b with history := joinHistory t b.history })
  let s := s.setDeadline .darkTimer (s.param .darkTime)
  let s := s.modBus (fun b => { b with noEdge := false, dark := false })
  let s := s.startLiveHold
  match s.bus.history with
  | [a, _, _, _, e] => s.frequencyUpdate a e
  | _ => s

/-- BMN takes a stamped zero-cross edge (R44). -/
def State.zeroCrossEdge (t : Time) (s : State) : State :=
  if s.isGlitch t then s else s.edgeAccepted t

/-! ### Dark, zero-cross loss and live (sections 3.5 and 3.6) -/

/-- Every stage delay is cancelled (R53, R54). -/
def State.cancelStages (s : State) : State := s.each allStages (fun k => State.cancel (.ufStage k))

/-- A dark declaration (R54). -/
def State.declareDark (s : State) : State :=
  let s := s.modBus (fun b =>
    { b with dark := true, live := false, freeze := false, raised := Vector.replicate 4 false,
             frequency := 0 })
  ((s.cancelStages.hand .darkBlu).hand .darkRsq).raise NoticeKind.darkDeclared none

/-- A zero-cross loss (R53). -/
def State.declareLoss (s : State) : State :=
  ((s.modBus (fun b => { b with freeze := true })).cancelStages).raise NoticeKind.zcLost none

/-- The dark timer expires (R52). -/
def State.darkTimerExpired (s : State) : State :=
  let s := (s.modBus (fun b => { b with history := [], noEdge := true })).cancel .liveHold
  if s.allBreakersOpen then s.declareDark else s.declareLoss

/-- A LIVE declaration (R57). -/
def State.declareLive (s : State) : State :=
  let s := s.modBus (fun b => { b with live := true })
  (((s.hand .liveBlu).hand .liveGsq).hand .liveRsq).raise NoticeKind.liveDeclared none

/-- The live hold expires (R57). The frequency tested is the one BMN holds, also while the freeze stands (assumption
log 56). A hold set again is counted from time base S as BMN takes the expiry (assumption log 59). -/
def State.liveHoldExpired (s : State) : State :=
  if s.inBand s.bus.frequency then s.declareLive else s.setDeadline .liveHold (s.param .liveHold)

/-- BMN takes a genset breaker change (R54). -/
def State.bmnBreaker (s : State) : State :=
  if s.bus.noEdge ∧ s.bus.dark = false ∧ s.allBreakersOpen then s.declareDark else s

/-- The breaker change handed to BMN. -/
def Message.breakerBmn? : Message → Option (LineIx × Bool)
  | .breakerBmn l c _ => some (l, c)
  | _ => none

def execUfStageDelayExpiry (k : StageIx) (s : State) : Host.Outcome State Fault Refusal :=
  .next (s.onExpiry (.ufStage k) (State.stageRaise k))

def execDarkTimerExpiry (s : State) : Host.Outcome State Fault Refusal :=
  .next (s.onExpiry .darkTimer State.darkTimerExpired)

def execLiveHoldExpiry (s : State) : Host.Outcome State Fault Refusal :=
  .next (s.onExpiry .liveHold State.liveHoldExpired)

def execBmnBreakerChange (s : State) : Host.Outcome State Fault Refusal :=
  .next (s.awake (State.take Message.breakerBmn? (fun _ => State.bmnBreaker)))

/-! ### Pins (R165, R167) -/

/-- Whether a function makes a line one that LNU filters both ways (R165). -/
def LineFunction.isFiltered : LineFunction → Bool
  | .statusIn | .readyIn | .genBreakerIn => true
  | _ => false

/-- A zero-cross hold has run, or its filter time is 0: the rising level is handed on with its stamp
(R167; for the filtered level see assumption log 18). -/
def State.crossed (l : LineIx) (stamp : Time) (s : State) : State :=
  (s.modLine l (fun x => { x with hold := none, filtered := true })).zeroCrossEdge stamp

/-- The zero-cross pin takes a new level (R167). -/
def State.zeroCrossPin (l : LineIx) (high : Bool) (s : State) : State :=
  let was := s.lines[l].level
  let s := s.modLine l (fun x => { x with pin := high })
  let x := s.lines[l]
  if x.level then
    if was then s
    else if x.filter = 0 then s.crossed l s.timeF
    else
      let till := s.now + x.filter * Config.countsPerUs
      s.modLine l (fun x => { x with hold := some { till := till, stamp := s.timeF } })
  else s.modLine l (fun x => { x with hold := none, filtered := false })

/-- A filter hold in progress on a line has run (R165, R167). -/
def State.holdEnds (l : LineIx) (h : FilterHold) (s : State) : State :=
  let x := s.lines[l]
  if x.function = .zeroCrossIn then s.crossed l h.stamp
  else if x.function.isFiltered then s.filterChange l x.level
  else s

/-- A pin takes a new level, as LNU sees it by the function of its line (R165, R167). -/
def State.pinTakes (l : LineIx) (high : Bool) (s : State) : State :=
  let x := s.lines[l]
  if x.function = .zeroCrossIn then s.zeroCrossPin l high
  else if x.function.isFiltered then s.filterPin l high
  else s.modLine l (fun x => { x with pin := high })

/-- Time runs on to an instant; a filter hold of the line that has run by then ends first (R165). -/
def State.runPast (l : LineIx) (target : Nat) (s : State) : State :=
  match s.lines[l].hold with
  | some h => if h.till ≤ target then ((s.runTo h.till).holdEnds l h).runTo target else s.runTo target
  | none => s.runTo target

/-- A pin changes `after` counts from now (assumption log 3). In reset the pin alone changes (R173). -/
def State.pinChange (after : Nat) (l : LineIx) (high : Bool) (s : State) : State :=
  if s.port.resetHeld then s.modLine l (fun x => { x with pin := high })
  else (s.runPast l (s.now + after)).pinTakes l high

/-- The hold of a line ends at its time, time running on to it (R165, R167). -/
def State.holdExpired (l : LineIx) (s : State) : State :=
  match s.lines[l].hold with
  | some h => (s.runTo h.till).holdEnds l h
  | none => s

def execInputPinChange (after : Nat) (l : LineIx) (high : Bool) (s : State) :
    Host.Outcome State Fault Refusal :=
  .next (s.pinChange after l high)

def execInputFilterExpiry (l : LineIx) (s : State) : Host.Outcome State Fault Refusal :=
  .next (s.awake (fun s => if s.lines[l].function.isFiltered then s.holdExpired l else s))

def execZeroCrossPinChange (after : Nat) (high : Bool) (s : State) : Host.Outcome State Fault Refusal :=
  .next (match s.zeroCrossLine with
    | some l => s.pinChange after l high
    | none => s)

def execZeroCrossFilterExpiry (s : State) : Host.Outcome State Fault Refusal :=
  .next (s.awake (fun s => match s.zeroCrossLine with
    | some l => s.holdExpired l
    | none => s))

end Sys2Proof.Machine
end

