-- ==== Sys2Proof/Machine/Field.lean ====
section
/-! DEFINITION. The Station Directory, the field transaction and the poll cycle (chapter 8), with the
taking of report entries into the records (section 1.6). -/

namespace Sys2Proof.Machine

/-! ### Bindings (R6) -/

/-- The station class a kind requires (section 1.4). -/
def Kind.stationClass : Kind → StationClass
  | .genset => .gensetCtrl
  | .pv => .pvCtrl
  | .feeder => .feederMeter

/-- Whether a station's access serves a kind: it gives reports, and commands for a GENSET or a PV
(section 1.4). -/
def Access.serves (a : Access) (k : Kind) : Bool :=
  match k with
  | .genset | .pv => a == .reportCommand
  | .feeder => a.reports

/-- Whether a station, as it stands, passes the checks of R6 for a record of a kind bound to a unit. -/
def Station.fits (x : Station) (unit : Nat) (k : Kind) : Bool :=
  decide (unit < x.units) && x.cls == k.stationClass && x.access.serves k

/-- The records bound to a station, with their slots. -/
def State.boundRecords (s : State) (address : Nat) : List (SlotIx × Record) :=
  allSlots.filterMap (fun i => match s.record? i with
    | some r => if r.binding.any (fun b => b.address == address) then some (i, r) else none
    | none => none)

/-- The slot whose record binds a station and unit, as the station-unit index holds it (R6). -/
def State.bindingUser (s : State) (b : Binding) : Option SlotIx :=
  allSlots.find? (fun i => (s.record? i).any (fun r => r.binding == some b))

/-! ### Report entries (R10, R11) -/

/-- An entry of a REPORT: flags, value A and value B (section 8.4). -/
structure ReportEntry where
  flags : Byte
  valueA : Int
  valueB : Int
deriving DecidableEq, Repr

/-- FAULT is the value 1 of the flags (R186). -/
def ReportEntry.fault (e : ReportEntry) : Bool := e.flags.getLsbD 0

/-- LIMITED is the value 2 of the flags (R186). -/
def ReportEntry.limited (e : ReportEntry) : Bool := e.flags.getLsbD 1

/-- The greater of value A and value B while the plant runs free, and value B while it is held (R10). -/
def ReportEntry.availability (e : ReportEntry) : Int := if e.limited then e.valueB else max e.valueA e.valueB

/-- The reported values of an entry taken into the fields of a kind (R10). -/
def Body.report (b : Body) (e : ReportEntry) : Body :=
  match b with
  | .genset g => .genset { g with output := some (clamp e.valueA (2 * g.rated)), fault := e.fault }
  | .pv p =>
    .pv { p with output := some (clamp e.valueA p.rated),
                 available := some (clamp e.availability p.rated), limited := e.limited }
  | .feeder f => .feeder { f with measured := some (clamp e.valueA 20000) }

/-- A record after a report entry: fresh, ACTIVE if it was PROVISIONAL (R10, R11, R12). -/
def Record.report (r : Record) (now : Time) (e : ReportEntry) : Record :=
  { r with lastReport := some now, fresh := true, body := r.body.report e,
           lifecycle := if r.lifecycle = .provisional then .active else r.lifecycle }

/-- AST takes a report entry into the record in a slot, and GSQ acts on a reported fault and on the
output of an UNLOADING genset (R10, R87, R89), before the next entry is taken (assumption log 55). -/
def State.takeEntry (i : SlotIx) (e : ReportEntry) (s : State) : State :=
  let s := s.modRecord i (fun r => r.report s.timeS e)
  match s.genset? i with
  | some g => (if g.fault then s.faultReported i else s).unloadReport i
  | none => s

/-- AST takes an entry for a unit of a station; an entry for a pair that no record binds is discarded
(R10, R151). -/
def State.reportUnit (address unit : Nat) (e : ReportEntry) (s : State) : State :=
  match s.bindingUser { address := address, unit := unit } with
  | some i => s.takeEntry i e
  | none => s

/-- AST takes the entries of a REPORT in unit order (R151), and GSQ acts on each as it is taken (assumption
log 55). -/
def State.reportEntries (address : Nat) : Nat → List ReportEntry → State → State
  | _, [], s => s
  | unit, e :: rest, s => State.reportEntries address (unit + 1) rest (s.reportUnit address unit e)

/-! ### Judging a frame (R150) -/

/-- A frame from the line taken apart: address, kind and body, when the sync byte, the body length and
the check value are right (R149, R150). -/
def fieldParse : List Byte → Option (Nat × Nat × List Byte)
  | sync :: address :: kind :: length :: rest =>
    let n := length.toNat
    let body := rest.take n
    let c := crc16 (address :: kind :: length :: body)
    if sync = 0xA5 ∧ n ≤ 64 ∧ rest.drop n = [(c >>> 8).truncate 8, c.truncate 8] then
      some (address.toNat, kind.toNat, body)
    else none
  | _ => none

/-- The entries of a REPORT body, five bytes each (R186). -/
def entriesOf : List Byte → List ReportEntry
  | f :: a0 :: a1 :: b0 :: b1 :: rest =>
    { flags := f, valueA := ofI16 a0 a1, valueB := ofI16 b0 b1 } :: entriesOf rest
  | _ => []

/-- A valid reply to a transaction. -/
inductive Reply where
  | report (entries : List ReportEntry)
  | ack (value : Nat)
  | refuse
deriving DecidableEq, Repr

/-- The ACK or REFUSE a frame is for a command to a unit with a value (R150). -/
def commandReply (unit value kind : Nat) (body : List Byte) : Option Reply :=
  if kind = 0x82 ∧ body = u8 unit ++ u16 value then some (.ack value)
  else if kind = 0x83 ∧ body = u8 unit then some .refuse
  else none

/-- The reply a frame is for a transaction, when it is valid for it (R150). -/
def Transaction.judge (t : Transaction) (frame : List Byte) : Option Reply :=
  match fieldParse frame with
  | some (address, kind, body) =>
    if address ≠ t.address then none
    else
      match t.errand with
      | .poll units =>
        if kind = 0x81 ∧ body.length = 5 * units then some (.report (entriesOf body)) else none
      | .setpoint _ _ unit value => commandReply unit value kind body
      | .unload _ _ unit => commandReply unit 0 kind body
  | none => none

/-! ### The end of a transaction (R148, R153) -/

/-- Whether the record a SETPOINT served is still in its slot at its generation, bound to the station
and unit the frame was sent to (R153). -/
def State.stillServes (s : State) (i : SlotIx) (gen address unit : Nat) : Bool :=
  s.gen i = gen && (s.record? i).any (fun r => r.binding == some { address := address, unit := unit })

/-- The outcome of a SETPOINT in the record: an ACK, or a REFUSE or miss. An ACK of 0 completes the
retire of a RETIRING plant (R23, R153). -/
def State.setpointOutcome (i : SlotIx) (ack : Option Nat) (s : State) : State :=
  match ack with
  | some v =>
    let s := s.modPv i (fun p => { p with lastAck := some v, unconfirmed := false })
    if v = 0 ∧ s.lifecycle? i = some .retiring then s.freeSlot i else s
  | none => s.modPv i (fun p => { p with unconfirmed := true })

/-- The value an ACK echoes. -/
def Reply.acked : Reply → Option Nat
  | .ack v => some v
  | _ => none

/-- The outcome of a transaction of each kind; a reply is absent for a miss (R151, R153, R154). -/
def State.outcome (t : Transaction) (reply : Option Reply) (s : State) : State :=
  match t.errand, reply with
  | .poll _, some (.report entries) => s.reportEntries t.address 0 entries
  | .setpoint i gen unit _, r =>
    if s.stillServes i gen t.address unit then s.setpointOutcome i (r.bind Reply.acked) else s
  | _, _ => s

/-- The RETIRING PV records bound to a station are freed, in ascending slot order (R23, R148; assumption log
45). -/
def State.freeRetiring (address : Nat) (s : State) : State :=
  let gone := (s.boundRecords address).filter
    (fun p => p.2.lifecycle == .retiring && p.2.body.kind == .pv)
  s.each (gone.map Prod.fst) State.freeSlot

/-- A station after an answered transaction (R148). -/
def Station.answered (x : Station) : Station := { x with misses := 0, reach := .reachable }

/-- A station after a miss (R148). -/
def Station.missed (x : Station) (limit : Nat) : Station :=
  let m := min limit (x.misses + 1)
  { x with misses := m,
           reach := if limit ≤ m then .unreachable
             else if x.reach = .reachable then .suspect else x.reach }

/-- SDR credits the end of a transaction to its station (R148). -/
def State.credit (address : Nat) (answered : Bool) (s : State) : State :=
  match s.stationIndex address with
  | none => s
  | some d =>
    if answered then s.modStation d Station.answered
    else
      let was := s.stations[d].any (fun x => x.reach == .unreachable)
      let s := s.modStation d (fun x => x.missed (s.param .missLimit))
      let now := s.stations[d].any (fun x => x.reach == .unreachable)
      if now && !was then
        (s.raise NoticeKind.stationUnreachable (some address)).freeRetiring address
      else s

/-- Change what FLC holds. -/
def State.modLink (f : FieldLink → FieldLink) (s : State) : State := { s with link := f s.link }

/-- A transaction ends: the line is kept quiet for the station's gap, the outcome is applied, and the
end is credited to the station (R149). -/
def State.endTransaction (t : Transaction) (reply : Option Reply) (s : State) : State :=
  let till := s.now + t.gap * Config.countsPerMs
  let s := s.modLink (fun l => { l with transaction := none, phase := .endGap till })
  (s.outcome t reply).credit t.address reply.isSome

/-! ### The attempts of a transaction (R149) -/

/-- FLC transmits the same frame again (R149). -/
def State.sendRetry (t : Transaction) (s : State) : State :=
  s.modLink (fun l =>
    { l with transaction := some { t with retry := true },
             phase := .sending (s.now + frameTime t.baud t.frame.length),
             receiving := none, transmit := true })

/-- An attempt has failed: the first is followed by the turnaround gap, the retry ends the transaction
as a miss (R149). -/
def State.attemptFails (t : Transaction) (s : State) : State :=
  if t.retry then s.endTransaction t none
  else s.modLink (fun l => { l with phase := .retryGap (s.now + t.gap * Config.countsPerMs) })

/-- A frame being received has ended without answering: an allowance or a gap that was over meanwhile
takes its effect (R149). -/
def State.frameEnded (s : State) : State :=
  match s.link.transaction, s.link.phase with
  | some t, .waiting till => if till ≤ s.now then s.attemptFails t else s
  | some t, .retryGap till => if till ≤ s.now then s.sendRetry t else s
  | _, _ => s

/-- The last byte of the frame has left (R149). -/
def State.frameSent (s : State) : State :=
  match s.link.transaction, s.link.phase with
  | some t, .sending till =>
    let s := s.runTo till
    s.modLink (fun l =>
      { l with phase := .waiting (s.now + t.allowance * Config.countsPerMs), transmit := false })
  | _, _ => s

/-- The reply allowance runs out; a frame whose first byte has arrived is received to its end first
(R149). -/
def State.allowanceOver (s : State) : State :=
  match s.link.transaction, s.link.phase with
  | some t, .waiting till =>
    let s := s.runTo till
    if s.link.receiving.isSome then s else s.attemptFails t
  | _, _ => s

/-- The turnaround gap ends: the retry is sent, or waits for the frame being received; after a
transaction the line is free and the arbiter chooses (R149, R157). -/
def State.gapOver (s : State) : State :=
  match s.link.transaction, s.link.phase with
  | some t, .retryGap till =>
    let s := s.runTo till
    if s.link.receiving.isSome then s else s.sendRetry t
  | _, .endGap till => ((s.runTo till).modLink (fun l => { l with phase := .free })).arbiter
  | _, _ => s

/-- Whether FLC is transmitting, and so receives nothing (R149). -/
def LinkPhase.isSending : LinkPhase → Bool
  | .sending _ => true
  | _ => false

/-- The time of four characters at the line's rate, whose silence ends a frame being received (R149). -/
def FieldLink.silenceTime (l : FieldLink) : Nat := frameTime l.rate 4

/-- A frame has been received to its end, its last byte arriving now: a valid one answers the transaction in
flight, any other is discarded (R150; assumption log 10). -/
def State.frameReceived (frame : List Byte) (s : State) : State :=
  if s.link.phase.isSending then s
  else
    let s := s.modLink (fun l => { l with receiving := none })
    match s.link.transaction with
    | none => s
    | some t =>
      match t.judge frame with
      | some r => s.endTransaction t (some r)
      | none => s.frameEnded

/-- The frame being received ends by silence, four characters after its last byte, as not valid (R149). -/
def State.silence (s : State) : State :=
  match s.link.receiving with
  | some t => ((s.runTo (t + s.link.silenceTime)).modLink (fun l => { l with receiving := none })).frameEnded
  | none => s

/-- Whether four characters have passed since the last byte of the frame being received (R149). -/
def State.fallenSilent (s : State) : Bool :=
  s.link.receiving.any (fun t => decide (t + s.link.silenceTime ≤ s.now))

/-- A byte arrives: the first of a frame, which is being received from now on, or a further one of the frame
being received, whose silence counts from it. A frame fallen silent has ended before (R149; assumption log 10). -/
def State.byteArrives (s : State) : State :=
  let s := if s.fallenSilent then s.silence else s
  if s.link.phase.isSending then s else s.modLink (fun l => { l with receiving := some s.now })

def execFrameTransmitted (s : State) : Host.Outcome State Fault Refusal :=
  .next (s.awake State.frameSent)

def execTurnaroundGapEnd (s : State) : Host.Outcome State Fault Refusal :=
  .next (s.awake State.gapOver)

def execReplyAllowanceExpiry (s : State) : Host.Outcome State Fault Refusal :=
  .next (s.awake State.allowanceOver)

def execFieldFrameReceived (frame : List Byte) (s : State) : Host.Outcome State Fault Refusal :=
  .next (s.awake (State.frameReceived frame))

def execFrameSilenceTimeout (s : State) : Host.Outcome State Fault Refusal :=
  .next (s.awake State.silence)

def execFrameFirstByteReceived (s : State) : Host.Outcome State Fault Refusal :=
  .next (s.awake State.byteArrives)

/-! ### The poll cycle (R12, R155) -/

/-- A record after an ageing pass (R12). -/
def State.agedRecord (s : State) (r : Record) : Record :=
  match r.lastReport with
  | some t => if s.param .staleTime < s.since t then { r with fresh := false } else r
  | none => { r with fresh := false }

/-- The ageing pass (R12). -/
def State.agePass (s : State) : State :=
  s.each allSlots (fun i s => s.modRecord i s.agedRecord)

/-- Whether a poll cycle expiry marks a station due, with the cycle count it has just reached (R155). -/
def Station.polledAt (x : Station) (cycle : Nat) : Bool :=
  x.access.reports && (x.reach != .unreachable || cycle == 0)

/-- A station is marked due; one already due raises POLL_OVERRUN (R155). -/
def State.markDue (d : DirIx) (s : State) : State :=
  match s.stations[d] with
  | none => s
  | some x =>
    if x.polledAt s.link.cycle then
      if x.due then s.raise NoticeKind.pollOverrun (some x.address)
      else s.modStation d (fun x => { x with due := true })
    else s

/-- The poll cycle expires; stations are marked, and those due already noticed, in ascending index order
(R155; assumption log 44). -/
def State.pollCycleExpired (s : State) : State :=
  let s := s.agePass.modLink (fun l => { l with cycle := (l.cycle + 1) % 10 })
  (s.each (List.finRange 32) State.markDue).arbiter

def execPollCycleExpiry (s : State) : Host.Outcome State Fault Refusal :=
  .next (s.onExpiry .pollCycle State.pollCycleExpired)

/-! ### The station requests (R144 to R147) -/

/-- The ranges of section 8.1 for the fields of a station, by their place in STATION_ADD (R144): class,
unit count, access, reply allowance and turnaround gap are codes 1 to 5 of STATION_AMEND (R186). -/
def stationFieldInRange (code value : Nat) : Bool :=
  match code with
  | 1 => decide (1 ≤ value ∧ value ≤ 3)
  | 2 => decide (1 ≤ value ∧ value ≤ 4)
  | 3 => decide (1 ≤ value ∧ value ≤ 3)
  | 4 => decide (2 ≤ value ∧ value ≤ 100)
  | 5 => decide (value ≤ 20)
  | _ => false

/-- A station with one field changed (R145). -/
def Station.change (x : Station) (c : Nat × Nat) : Station :=
  match c.1 with
  | 1 => { x with cls := (StationClass.ofCode c.2).getD x.cls }
  | 2 => { x with units := c.2 }
  | 3 => { x with access := (Access.ofCode c.2).getD x.access }
  | 4 => { x with allowance := c.2 }
  | 5 => { x with gap := c.2 }
  | _ => x

/-- The lowest free directory index (R144). -/
def State.freeIndex (s : State) : Option DirIx := (List.finRange 32).find? (fun d => s.stations[d].isNone)

/-- The entry STATION_ADD creates (R144); its values are in range when it is stored. -/
def newStation (address cls units access allowance gap : Nat) : Station :=
  { address := address, cls := (StationClass.ofCode cls).getD .gensetCtrl, units := units,
    access := (Access.ofCode access).getD .reportOnly, allowance := allowance, gap := gap,
    misses := 0, reach := .unknown, due := false }

/-- Whether the values of STATION_ADD lie in their ranges (R144). -/
def stationAddInRange (address cls units access allowance gap : Nat) : Bool :=
  decide (1 ≤ address ∧ address ≤ 247) && stationFieldInRange 1 cls && stationFieldInRange 2 units &&
  stationFieldInRange 3 access && stationFieldInRange 4 allowance && stationFieldInRange 5 gap

/-- STATION_ADD (R144). -/
def State.stationAddRequest (address cls units access allowance gap : Nat) (s : State) : State :=
  let c : Instr := .stationAdd address cls units access allowance gap
  if !stationAddInRange address cls units access allowance gap then s.refuse c .outOfRange
  else if (s.stationIndex address).isSome then s.refuse c .stationInUse
  else
    match s.freeIndex with
    | none => s.refuse c .tableFull
    | some d =>
      { s with
        stations := s.stations.set d (some (newStation address cls units access allowance gap)) }.respond
        c .ok (u8 d)

/-- A station after an accepted STATION_AMEND: all changes together, and no due mark without report
access (R145). -/
def Station.amended (x : Station) (changes : List (Nat × Nat)) : Station :=
  let y := changes.foldl Station.change x
  { y with due := x.due && y.access.reports }

/-- STATION_AMEND (R145). -/
def State.stationAmendRequest (address : Nat) (changes : List (Nat × Nat)) (s : State) : State :=
  let c : Instr := .stationAmend address changes
  match s.stationIndex address, s.station? address with
  | some d, some x =>
    if !changes.all (fun p => stationFieldInRange p.1 p.2) then s.refuse c .outOfRange
    else
      let y := x.amended changes
      let fits := (s.boundRecords address).all (fun p =>
        y.fits (p.2.binding.elim 0 Binding.unit) p.2.body.kind)
      if fits then (s.modStation d (fun _ => y)).respond c .ok [] else s.refuse c .stationInUse
  | _, _ => s.refuse c .outOfRange

/-- STATION_DROP (R146). -/
def State.stationDropRequest (address : Nat) (s : State) : State :=
  let c : Instr := .stationDrop address
  match s.stationIndex address with
  | none => s.refuse c .outOfRange
  | some d =>
    if (s.boundRecords address).isEmpty then
      { s with stations := s.stations.set d none }.respond c .ok []
    else s.refuse c .stationInUse

/-- STATION_QUERY (R147). -/
def State.stationQueryRequest (address index : Nat) (s : State) : State :=
  let c : Instr := .stationQuery address index
  if address = 0 then
    if h : index < 32 then s.respond c .ok (stationBytes s.free index s.stations[index])
    else s.refuse c .outOfRange
  else
    match s.stationIndex address with
    | some d => s.respond c .ok (stationBytes s.free d s.stations[d])
    | none => s.refuse c .outOfRange

def execStationAdd (address cls units access allowance gap : Nat) (s : State) :
    Host.Outcome State Fault Refusal :=
  .next (s.serve (.stationAdd address cls units access allowance gap)
    (State.stationAddRequest address cls units access allowance gap))

def execStationAmend (address : Nat) (changes : List (Nat × Nat)) (s : State) :
    Host.Outcome State Fault Refusal :=
  .next (s.serve (.stationAmend address changes) (State.stationAmendRequest address changes))

def execStationDrop (address : Nat) (s : State) : Host.Outcome State Fault Refusal :=
  .next (s.serve (.stationDrop address) (State.stationDropRequest address))

def execStationQuery (address index : Nat) (s : State) : Host.Outcome State Fault Refusal :=
  .next (s.serve (.stationQuery address index) (State.stationQueryRequest address index))

end Sys2Proof.Machine
end

