-- ==== Sys2Proof/Machine/Records.lean ====
section
/-! DEFINITION. The Asset Table's requests (chapter 1): REGISTER, AMEND, QUERY, LOOKUP_TAG, LIST and
RETIRE. A field entry is a field code with a 16-bit value (R186). -/

namespace Sys2Proof.Machine

/-! ### Field codes (R186) -/

/-- The value that removes an optional field (R186). -/
def removed : Nat := 0xFFFF

/-- The configuration field codes of a kind (R186). -/
def Kind.codes : Kind → List Nat
  | .genset => [1, 2, 3, 4, 5, 6, 7, 8, 9, 10]
  | .pv => [1, 2, 3, 4, 5]
  | .feeder => [1, 2, 3, 4, 5, 6, 7, 8]

/-- The field codes a REGISTER of a kind must carry (R8). -/
def Kind.required : Kind → List Nat
  | .genset => [1, 2, 3, 4, 5, 6, 7, 8, 9]
  | .pv => [1, 2, 3, 4]
  | .feeder => [1, 3, 4, 5, 6]

/-- The field codes of a kind that name a line, with the function the role requires (section 1.4). -/
def Kind.lineCodes : Kind → List (Nat × LineFunction)
  | .genset => [(7, .runOut), (8, .readyIn), (9, .genBreakerIn), (10, .permitOut)]
  | .pv => []
  | .feeder => [(6, .tripOut), (7, .closeOut), (8, .statusIn)]

/-- The optional field codes of a kind, the binding of a FEEDER among them (section 1.5). -/
def Kind.optional : Kind → List Nat
  | .genset => [10]
  | .pv => [5]
  | .feeder => [2, 7, 8]

/-- The value of a field code in a list of field entries. -/
def fieldOf (fields : List (Nat × Nat)) (code : Nat) : Option Nat :=
  (fields.find? (fun p => p.1 == code)).map Prod.snd

/-- A binding is given as address plus 256 times unit (R186). -/
def bindingOf (v : Nat) : Binding := { address := v % 256, unit := v / 256 }

/-- A line number as an index; it is 0 to 63 once its range has been checked. -/
def lineOf (v : Nat) : LineIx := Fin.ofNat 64 v

/-! ### Ranges (section 1.5) -/

/-- The range of a field of a kind, both ends included, apart from the binding (section 1.5). That a line number
above 63 is refused here, and not among the checks of the lines, is assumption log 50. -/
def Kind.range (k : Kind) (code : Nat) : Nat × Nat :=
  match k, code with
  | _, 1 => (1, 65535)
  | .genset, 3 => (10, 5000) | .genset, 4 => (0, 5000) | .genset, 5 => (1, 8) | .genset, 6 => (0, 1)
  | .genset, _ => (0, 63)
  | .pv, 3 => (1, 5000) | .pv, 4 => (0, 7) | .pv, _ => (1, 1000)
  | .feeder, 3 => (0, 15) | .feeder, 4 => (0, 1) | .feeder, 5 => (0, 10000) | .feeder, _ => (0, 63)

/-- Whether a field entry of a kind lies in its range; the removal of an optional field does (R8, R15).
A binding is an address 1 to 247 and a unit 0 to 3. -/
def Kind.inRange (k : Kind) (p : Nat × Nat) : Bool :=
  if k.optional.contains p.1 && p.2 == removed then true
  else if p.1 = 2 then
    decide (1 ≤ (bindingOf p.2).address ∧ (bindingOf p.2).address ≤ 247 ∧ (bindingOf p.2).unit ≤ 3)
  else decide ((k.range p.1).1 ≤ p.2 ∧ p.2 ≤ (k.range p.1).2)

/-! ### Applying field entries -/

/-- An optional value: absent for FFFFh. -/
def present (v : Nat) : Option Nat := if v = removed then none else some v

/-- The genset fields after a field entry. -/
def Genset.applyField (g : Genset) (p : Nat × Nat) : Genset :=
  match p.1 with
  | 3 => { g with rated := p.2 }
  | 4 => { g with minLoad := p.2 }
  | 5 => { g with rank := p.2 }
  | 6 => { g with mustRun := p.2 = 1 }
  | 7 => { g with runLine := lineOf p.2 }
  | 8 => { g with readyLine := lineOf p.2 }
  | 9 => { g with breakerLine := lineOf p.2 }
  | 10 => { g with permitLine := (present p.2).map lineOf }
  | _ => g

/-- The PV fields after a field entry. -/
def Pv.applyField (x : Pv) (p : Nat × Nat) : Pv :=
  match p.1 with
  | 3 => { x with rated := p.2 }
  | 4 => { x with cls := p.2 }
  | 5 => { x with ramp := present p.2 }
  | _ => x

/-- The feeder fields after a field entry. -/
def Feeder.applyField (f : Feeder) (p : Nat × Nat) : Feeder :=
  match p.1 with
  | 3 => { f with cls := p.2 }
  | 4 => { f with sheddable := p.2 = 1 }
  | 5 => { f with nominal := p.2 }
  | 6 => { f with tripLine := lineOf p.2 }
  | 7 => { f with closeLine := (present p.2).map lineOf }
  | 8 => { f with statusLine := (present p.2).map lineOf }
  | _ => f

/-- The fields of a kind after a field entry. -/
def Body.applyField (b : Body) (p : Nat × Nat) : Body :=
  match b with
  | .genset g => .genset (g.applyField p)
  | .pv x => .pv (x.applyField p)
  | .feeder f => .feeder (f.applyField p)

/-- A record after a field entry: the tag is code 1 and the binding code 2. -/
def Record.applyField (r : Record) (p : Nat × Nat) : Record :=
  match p.1 with
  | 1 => { r with tag := p.2 }
  | 2 => { r with binding := (present p.2).map bindingOf }
  | _ => { r with body := r.body.applyField p }

/-- A record after all its field entries. -/
def Record.applyFields (r : Record) (fields : List (Nat × Nat)) : Record := fields.foldl Record.applyField r

/-- The fields of a new record before its entries are applied (R9). -/
def Kind.blankBody : Kind → Body
  | .genset =>
    .genset { rated := 0, minLoad := 0, rank := 0, mustRun := false, runLine := 0, readyLine := 0,
              breakerLine := 0, permitLine := none, state := .stopped, attempts := 0,
              onlineSince := none, trips := 0, output := none, fault := false }
  | .pv =>
    .pv { rated := 0, cls := 0, ramp := none, setpoint := 0, lastSent := none, lastAck := none,
          unconfirmed := false, planCap := none, output := none, available := none, limited := false }
  | .feeder =>
    .feeder { cls := 0, sheddable := false, nominal := 0, tripLine := 0, closeLine := none,
              statusLine := none, state := .closed, hold := 0, cause := none, measured := none,
              lastChange := 0, pendingCause := none }

/-- The record a REGISTER would create, its lifecycle set by R9. -/
def newRecord (k : Kind) (fields : List (Nat × Nat)) : Record :=
  let r : Record := Record.applyFields
    { lifecycle := .provisional, tag := 0, binding := none, lastReport := none, fresh := false,
      body := k.blankBody } fields
  { r with lifecycle := if k = .feeder ∧ r.binding = none then .active else .provisional }

/-! ### The checks of tags, bindings and lines (R4, R6, R7) -/

/-- Whether the rated and minimum load agree: a minimum load is at most the rated (R8, R15). -/
def Body.loadsAgree : Body → Bool
  | .genset g => decide (g.minLoad ≤ g.rated)
  | _ => true

/-- The record, other than the one in the slot given, that holds a tag (R4). -/
def State.tagHeld (s : State) (self : Option SlotIx) (tag : Nat) : Bool :=
  allSlots.any (fun i => some i != self && (s.record? i).any (fun r => r.tag == tag))

/-- The refusal of a binding for a record of a kind, by the order of R6. -/
def State.bindingRefusal (s : State) (self : Option SlotIx) (k : Kind) (b : Binding) : Option Status :=
  match s.station? b.address with
  | none => some .outOfRange
  | some x =>
    if x.units ≤ b.unit then some .outOfRange
    else if x.cls ≠ k.stationClass ∨ x.access.serves k = false then some .badKind
    else if allSlots.any (fun i => some i != self && (s.record? i).any (fun r => r.binding == some b)) then
      some .stationInUse
    else none

/-- How many roles of a record a line serves. -/
def Record.uses (r : Record) (l : LineIx) : Nat := (r.lines.filter (fun x => x == l)).length

/-- The refusal of a line for a role of a record, the record as it will stand after the request (R7). An AMEND
that gives a role the line it already serves passes (assumption log 38). -/
def State.lineRefusal (s : State) (self : Option SlotIx) (r : Record) (f : LineFunction) (l : LineIx) :
    Option Status :=
  if s.lines[l].function ≠ f then some .badKind
  else if (s.lineUsers l).any (fun i => some i != self) ∨ 2 ≤ r.uses l then some .lineInUse
  else none

/-- The refusal of the first named line that fails, in field-code order (R7; assumption log 11). -/
def State.linesRefusal (s : State) (self : Option SlotIx) (r : Record) (fields : List (Nat × Nat)) :
    Option Status :=
  r.body.kind.lineCodes.findSome? (fun c =>
    ((fieldOf fields c.1).bind present).bind (fun v => s.lineRefusal self r c.2 (lineOf v)))

/-- The refusal of a named binding; its removal passes (R6). -/
def State.namedBindingRefusal (s : State) (self : Option SlotIx) (k : Kind) (fields : List (Nat × Nat)) :
    Option Status :=
  ((fieldOf fields 2).bind present).bind (fun v => s.bindingRefusal self k (bindingOf v))

/-- The refusal of a named tag (R4). -/
def State.namedTagRefusal (s : State) (self : Option SlotIx) (fields : List (Nat × Nat)) : Option Status :=
  (fieldOf fields 1).bind (fun v => if s.tagHeld self v then some .duplicateTag else none)

/-- The refusals that end the checks of REGISTER and AMEND: binding, lines, tag (R8, R15). -/
def State.namingRefusal (s : State) (self : Option SlotIx) (r : Record) (fields : List (Nat × Nat)) :
    Option Status :=
  (s.namedBindingRefusal self r.body.kind fields).or
    ((s.linesRefusal self r fields).or (s.namedTagRefusal self fields))

/-! ### REGISTER (R8, R9) -/

/-- How many non-FREE records of a kind there are (R1). -/
def State.kindCount (s : State) (k : Kind) : Nat :=
  (allSlots.filter (fun i => (s.record? i).any (fun r => r.body.kind == k))).length

/-- The cap of a kind (R1). -/
def Kind.cap : Kind → Nat
  | .genset => Config.gensetCap
  | .pv => Config.pvCap
  | .feeder => Config.feederCap

/-- The lowest-numbered FREE slot (R1). -/
def State.freeSlot? (s : State) : Option SlotIx := allSlots.find? (fun i => (s.record? i).isNone)

/-- The refusal of a REGISTER of a kind, by the order of R8, a field code named twice refused before it
(R177). -/
def State.registerRefusal (s : State) (k : Kind) (fields : List (Nat × Nat)) : Option Status :=
  if noneTwice fields = false then some .malformed
  else if !fields.all (fun p => k.codes.contains p.1) then some .badKind
  else if !k.required.all (fun c => (fieldOf fields c).isSome) then some .malformed
  else if k.cap ≤ s.kindCount k then some .tableFull
  else if !(fields.all k.inRange && (newRecord k fields).body.loadsAgree) then some .outOfRange
  else s.namingRefusal none (newRecord k fields) fields

/-- The setpoint a new PV record starts at: rated, or 0 in DARK and RESTORING (R9). -/
def State.firstSetpoint (s : State) (rated : Nat) : Nat :=
  if s.blu.grid = .dark ∨ s.blu.grid = .restoring then 0 else rated

/-- The fields of a new record that its owners give it at once (R9). -/
def State.settleNew (i : SlotIx) (s : State) : State :=
  match s.record? i with
  | some { body := .genset _, .. } => s.deriveGenset i
  | some { body := .pv p, .. } => s.putSetpoint i (s.firstSetpoint p.rated)
  | some { body := .feeder f, .. } =>
    s.modFeeder i (fun _ => { s.derivedFeeder f with lastChange := s.timeS })
  | none => s

/-- An accepted REGISTER creates the record in a FREE slot (R9). -/
def State.createRecord (i : SlotIx) (k : Kind) (fields : List (Nat × Nat)) (s : State) : State :=
  (s.putRecord i (newRecord k fields)).settleNew i

/-- REGISTER (R8). -/
def State.registerRequest (kind : Nat) (fields : List (Nat × Nat)) (s : State) : State :=
  let c : Instr := .register kind fields
  match Kind.ofCode kind with
  | none => s.refuse c .outOfRange
  | some k =>
    match s.registerRefusal k fields, s.freeSlot? with
    | some e, _ => s.refuse c e
    | none, none => s.refuse c .tableFull
    | none, some i => (s.createRecord i k fields).respond c .ok (u16 (handleWord (s.handleOf i)))

/-! ### AMEND (R15 to R18) -/

/-- Whether a field of a record is locked in its present state (R16). -/
def Record.locked (r : Record) (code : Nat) : Bool :=
  match r.body with
  | .genset g =>
    [2, 3, 7, 8, 9, 10].contains code && g.state != .stopped && g.state != .lockout
  | .pv _ => [2, 3].contains code && r.lifecycle != .provisional
  | .feeder f => [2, 6, 7, 8].contains code && f.state != .tripped

/-- The refusal of an AMEND of the record in a slot, by the order of R15, a field code named twice refused
before it (R177). -/
def State.amendRefusal (s : State) (i : SlotIx) (r : Record) (fields : List (Nat × Nat)) : Option Status :=
  let k := r.body.kind
  let r' := r.applyFields fields
  if noneTwice fields = false then some .malformed
  else if !fields.all (fun p => k.codes.contains p.1) then some .badKind
  else if !(fields.all k.inRange && r'.body.loadsAgree) then some .outOfRange
  else if fields.any (fun p => r.locked p.1) then some .fieldLocked
  else s.namingRefusal (some i) r' fields

/-- The reported values of a record are cleared with its binding (R18). -/
def Body.unreported : Body → Body
  | .genset g => .genset { g with output := none, fault := false }
  | .pv p => .pv { p with output := none, available := none, limited := false }
  | .feeder f => .feeder { f with measured := none }

/-- A PV setpoint above an amended rated is lowered to it (R73). -/
def Body.limited : Body → Body
  | .pv p => .pv { p with setpoint := min p.setpoint p.rated }
  | b => b

/-- A record after a change of its binding (R18). -/
def Record.rebound (r : Record) : Record :=
  { r with lastReport := none, fresh := false, body := r.body.unreported,
           lifecycle := if r.binding = none then .active else .provisional }

/-- The record an accepted AMEND leaves in the slot (R17, R18, R73). A binding named again as it stands is no
change of it (assumption log 48). -/
def Record.amended (r : Record) (fields : List (Nat × Nat)) : Record :=
  let r' := r.applyFields fields
  let r' := { r' with body := r'.body.limited }
  if r'.binding = r.binding then r' else r'.rebound

/-- A feeder leaves the armed sets whose stage window does not contain its class, and all of them when
it is not sheddable (R17). The window is the class as last written (assumption log 53). -/
def State.disarm (i : SlotIx) (f : Feeder) (s : State) : State :=
  let leaves (k : StageIx) : Bool := !f.sheddable || decide (s.param (.ufWindow k) < f.cls)
  { s with
    shu := { s.shu with
      armed := Vector.ofFn (fun k =>
        if leaves k then s.shu.armed[k].filter (fun j => j != i) else s.shu.armed[k]) } }

/-- A new or changed status line that reads closed makes a TRIPPED feeder CLOSED (R18). -/
def State.statusAmended (i : SlotIx) (old new : Feeder) (s : State) : State :=
  match new.statusLine with
  | some l =>
    if new.statusLine ≠ old.statusLine ∧ s.filtered l = true then s.feederEnter i .closed none else s
  | none => s

/-- What SHU does at an AMEND of a feeder (R17, R18). -/
def State.feederAmended (i : SlotIx) (old new : Feeder) (s : State) : State :=
  let s := if old.sheddable = new.sheddable ∧ old.cls = new.cls then s else s.disarm i new
  s.statusAmended i old new

/-- The trip pulse of a feeder whose trip line is replaced runs on: the old line, which leaves its role, and
the new one are inactive, and the pulse ends at its time on the new line (R7, R17, R169; assumption log
35). -/
def State.movePulse (r r' : Record) (pulse : Option Time) (s : State) : State :=
  match r.body, r'.body with
  | .feeder old, .feeder new =>
    if old.tripLine = new.tripLine then s else s.modLine new.tripLine (fun x => { x with pulse := pulse })
  | _, _ => s

/-- The pulse on the trip line of a feeder record. -/
def State.pulseOn (s : State) (r : Record) : Option Time :=
  match r.body with
  | .feeder f => s.lines[f.tripLine].pulse
  | _ => none

/-- An accepted AMEND makes all its changes together (R17, R18). -/
def State.amendRecord (i : SlotIx) (r : Record) (fields : List (Nat × Nat)) (s : State) : State :=
  let r' := r.amended fields
  let pulse := s.pulseOn r
  let s := s.putRecord i r'
  let s := s.each (r.lines.filter (fun l => !r'.lines.contains l)) State.releaseLine
  let s := s.movePulse r r' pulse
  let s := if r'.binding = r.binding then s else s.dropSetpoints i
  match r.body, r'.body with
  | .feeder old, .feeder new => s.feederAmended i old new
  | _, _ => s

/-- AMEND (R15). -/
def State.amendRequest (h : Handle) (fields : List (Nat × Nat)) (s : State) : State :=
  let c : Instr := .amend h fields
  match s.resolve h with
  | none => s.refuse c .badHandle
  | some i =>
    match s.record? i with
    | none => s.refuse c .badHandle
    | some r =>
      match s.amendRefusal i r fields with
      | some e => s.refuse c e
      | none => (s.amendRecord i r fields).respond c .ok []

/-! ### QUERY, LOOKUP_TAG and LIST (R5, R19, R20) -/

/-- QUERY (R19). -/
def State.queryRequest (h : Handle) (s : State) : State :=
  match s.resolve h with
  | none => s.refuse (.query h) .badHandle
  | some i =>
    match s.record? i with
    | some r => s.respond (.query h) .ok (recordBytes s.free s i r)
    | none => s.refuse (.query h) .badHandle

/-- The slot and record that hold a tag, as the tag index holds them (R4). -/
def State.tagged (s : State) (tag : Nat) : Option (SlotIx × Record) :=
  allSlots.findSome? (fun i => ((s.record? i).filter (fun r => r.tag == tag)).map (fun r => (i, r)))

/-- LOOKUP_TAG (R5). -/
def State.lookupRequest (tag : Nat) (s : State) : State :=
  if tag = 0 then s.refuse (.lookupTag tag) .outOfRange
  else
    s.respond (.lookupTag tag) .ok
      (match s.tagged tag with
        | some (i, r) =>
          u8 1 ++ u16 (handleWord (s.handleOf i)) ++ u8 r.body.kind.code ++ u8 r.lifecycle.code
        | none => u8 0 ++ u16 0 ++ u8 0 ++ u8 0)

/-- The records LIST looks through, from a start slot on, of a kind or of any (R20). -/
def State.listed (s : State) (first : Nat) (k : Option Kind) : List (SlotIx × Record) :=
  allSlots.filterMap (fun i => match s.record? i with
    | some r => if first ≤ i.val ∧ (k.all (fun k => r.body.kind == k)) = true then some (i, r) else none
    | none => none)

/-- The body of a LIST response: the next slot to ask for, the count and the entries (R20, R186). -/
def State.listBytes (s : State) (found : List (SlotIx × Record)) : List Byte :=
  let now := found.take 16
  let next : Nat :=
    if found.length ≤ 16 then 0xFF else (now.getLast?.elim 0 (fun p => p.1.val + 1))
  u8 next ++ u8 now.length ++ now.flatMap (fun p => listEntryBytes s p.1 p.2)

/-- LIST (R20). A start slot above 63 with a kind that is none is refused with OUT_OF_RANGE (assumption log
37). -/
def State.listRequest (first kind : Nat) (s : State) : State :=
  let c : Instr := .list first kind
  if 63 < first then s.refuse c .outOfRange
  else if kind = 0 then s.respond c .ok (s.listBytes (s.listed first none))
  else
    match Kind.ofCode kind with
    | none => s.refuse c .badKind
    | some k => s.respond c .ok (s.listBytes (s.listed first (some k)))

/-! ### RETIRE (R21 to R24) -/

/-- Whether a stored plan step names the record in a slot (R21). -/
def State.inPlan (s : State) (i : SlotIx) : Bool :=
  allPositions.any (fun p => s.rsq.steps[p].any (fun x =>
    x.action.target.any (fun h => s.resolve h == some i)))

/-- The rated of every other genset in RETIRING that is still ONLINE or UNLOADING (R22). -/
def State.retiringRated (s : State) (i : SlotIx) : Nat :=
  ((s.gensets.filter (fun p => p.1 != i && s.lifecycle? p.1 = some .retiring &&
    (p.2.state == .online || p.2.state == .unloading))).map (fun p => p.2.rated)).sum

/-- The retire test of a genset (R22). -/
def State.retireTest (s : State) (i : SlotIx) (g : Genset) : Bool :=
  s.otherOnline i &&
  s.blu.results.any (fun r =>
    decide ((r.required : Int) + s.param .stopMargin ≤ r.headroom - g.rated - s.retiringRated i))

/-- A record goes to RETIRING. -/
def State.beginRetire (i : SlotIx) (s : State) : State :=
  s.modRecord i (fun r => { r with lifecycle := .retiring })

/-- A retire that frees the slot at once (R21). -/
def State.freedNow (c : Instr) (i : SlotIx) (s : State) : State := (s.freeSlot i).respond c .ok []

/-- The retire of a genset (R22). -/
def State.retireGenset (c : Instr) (i : SlotIx) (g : Genset) (s : State) : State :=
  match g.state with
  | .stopped | .lockout => s.freedNow c i
  | .online =>
    if s.retireTest i g then ((s.beginRetire i).stopOrder i).respond c .accepted []
    else s.refuse c .needed
  | .cranking | .resting | .runUp | .syncing | .unloading | .cooldown => s.refuse c .busy

/-- The retire of a PV plant (R23). -/
def State.retirePv (c : Instr) (i : SlotIx) (r : Record) (s : State) : State :=
  if r.lifecycle = .provisional ∨ (s.boundTo i).any (fun p => p.1.reach == .unreachable) then
    s.freedNow c i
  else (((s.beginRetire i).putSetpoint i 0).requestSetpoint i 0).respond c .accepted []

/-- The retire of a feeder (R24). -/
def State.retireFeeder (c : Instr) (i : SlotIx) (f : Feeder) (s : State) : State :=
  match f.state with
  | .closed | .tripped | .breakerFail | .tripPending => s.freedNow c i
  | .opening | .closePending | .closing => s.refuse c .busy

/-- RETIRE (R21). -/
def State.retireRequest (h : Handle) (s : State) : State :=
  let c : Instr := .retire h
  match s.resolve h with
  | none => s.refuse c .badHandle
  | some i =>
    match s.record? i with
    | none => s.refuse c .badHandle
    | some r =>
      if s.inPlan i then s.refuse c .planReference
      else if r.lifecycle = .retiring then s.respond c .accepted []
      else match r.body with
        | .genset g => s.retireGenset c i g
        | .pv _ => s.retirePv c i r
        | .feeder f => s.retireFeeder c i f

def execRegister (kind : Nat) (fields : List (Nat × Nat)) (s : State) :
    Host.Outcome State Fault Refusal :=
  .next (s.serve (.register kind fields) (State.registerRequest kind fields))

def execAmend (h : Handle) (fields : List (Nat × Nat)) (s : State) : Host.Outcome State Fault Refusal :=
  .next (s.serve (.amend h fields) (State.amendRequest h fields))

def execQuery (h : Handle) (s : State) : Host.Outcome State Fault Refusal :=
  .next (s.serve (.query h) (State.queryRequest h))

def execLookupTag (tag : Nat) (s : State) : Host.Outcome State Fault Refusal :=
  .next (s.serve (.lookupTag tag) (State.lookupRequest tag))

def execList (first kind : Nat) (s : State) : Host.Outcome State Fault Refusal :=
  .next (s.serve (.list first kind) (State.listRequest first kind))

def execRetire (h : Handle) (s : State) : Host.Outcome State Fault Refusal :=
  .next (s.serve (.retire h) (State.retireRequest h))

end Sys2Proof.Machine
end

