-- ==== Sys2Proof/Machine/Store.lean ====
section
/-! DEFINITION. The Settings Store: the snapshot SAVE takes, the check of an image area, and what a
reset loads from it (R26, R182 to R184). -/

namespace Sys2Proof.Machine

/-! ### The snapshot (R182) -/

/-- The fields of a kind with every runtime field at its value after a reset (R26). -/
def Body.scrubbed : Body → Body
  | .genset g =>
    .genset { g with state := .stopped, attempts := 0, onlineSince := none, trips := 0, output := none,
                     fault := false }
  | .pv p =>
    .pv { p with setpoint := p.rated, lastSent := none, lastAck := none, unconfirmed := false,
                 planCap := none, output := none, available := none, limited := false }
  | .feeder f =>
    .feeder { f with state := .closed, hold := 0, cause := none, measured := none, lastChange := 0,
                     pendingCause := none }

/-- A record with its runtime fields at their values after a reset; the lifecycle is kept (R182). -/
def Record.scrubbed (r : Record) : Record :=
  { r with lastReport := none, fresh := false, body := r.body.scrubbed }

/-- A station with its runtime fields at their values after a reset (R143). -/
def Station.scrubbed (x : Station) : Station := { x with misses := 0, reach := .unknown, due := false }

/-- The configuration of a line. -/
def Line.config (x : Line) : LineConfig :=
  { function := x.function, polarity := x.polarity, filter := x.filter }

/-- The contents of the image as they stand (R182). -/
def State.snapshot (s : State) : Image :=
  { stations := Vector.ofFn (fun d => s.stations[d].map Station.scrubbed),
    slots := Vector.ofFn (fun i =>
      { gen := s.slots[i].gen, record := s.slots[i].record.map Record.scrubbed }),
    lines := Vector.ofFn (fun l => s.lines[l].config),
    params := s.params, steps := s.rsq.steps, planLength := s.rsq.length, autoRun := s.rsq.autoRun,
    levels := s.ntu.levels }

/-! ### Image areas (R184) -/

/-- The bytes over which the check value of an area is computed: its length and its contents. How an
image is laid out as bytes is not stated: a free value (assumption log 6). -/
opaque Config.areaBytes : Nat → Image → List Byte

/-- The area a write of a snapshot leaves (R182). -/
def Image.area (m : Image) : ImageArea :=
  { length := Config.imageLength, contents := m,
    check := crc32 (Config.areaBytes Config.imageLength m) }

/-- Whether an area holds a good image (R184). -/
def ImageArea.good (a : ImageArea) : Bool :=
  a.length == Config.imageLength && a.check == crc32 (Config.areaBytes a.length a.contents)

/-- The image a reset loads, absent when the area was never written or is bad (R184). -/
def SettingsStore.load (x : SettingsStore) : Option Image :=
  (x.current.filter ImageArea.good).map ImageArea.contents

/-! ### SAVE (R182) -/

/-- SAVE (R182). -/
def State.saveRequest (s : State) : State :=
  if s.store.saving.isSome then s.refuse .save .busy
  else
    { s with
      store := { s.store with spare := none,
                              saving := some { snapshot := s.snapshot, since := s.now } } }.respond
      .save .accepted []

/-- The write completes: the new area is the one the next reset loads (R182). -/
def State.saveDone (s : State) : State :=
  match s.store.saving with
  | some w =>
    { s with
      store := { current := some w.snapshot.area, spare := s.store.current, saving := none } }.raise
      NoticeKind.saveDone none
  | none => s

def execSave (s : State) : Host.Outcome State Fault Refusal :=
  .next (s.serve .save State.saveRequest)

def execSaveWriteComplete (s : State) : Host.Outcome State Fault Refusal :=
  .next (s.awake State.saveDone)

/-! ### What a reset loads (R26, R143) -/

/-- The lifecycle a record takes at a reset (R26). -/
def Record.resetLifecycle (r : Record) : Lifecycle :=
  if r.body.kind = .feeder ∧ r.binding = none then .active else .provisional

/-- A record after a reset, before the states of gensets and feeders are derived (R26). -/
def Record.reloaded (r : Record) : Record :=
  { r.scrubbed with lifecycle := r.resetLifecycle }

end Sys2Proof.Machine
end

