-- ==== Sys2Proof/Machine/HostPort.lean ====
section
/-! DEFINITION. The Host Port's transaction (section 10.1), parameters (section 10.3), the line requests
(R163, R174) and notices (section 10.4). -/

namespace Sys2Proof.Machine

/-! ### The SPI transaction (R175 to R177) -/

/-- The NOP response, shifted out when none is pending (R175). -/
def nopResponse : List Byte := responseFrame .ok 0x01 []

/-- The frame the next transaction shifts out (R175, R176). -/
def State.outgoing (s : State) : List Byte :=
  if s.port.resetHeld then responseFrame .notReady 0x01 []
  else
    match s.port.request with
    | some c => responseFrame .notReady (requestCode c) []
    | none => s.port.response.getD nopResponse

/-- The bytes shifted out on a number of clocked bytes: the frame, and 0 after its last byte (R175). -/
def shiftedOut (frame : List Byte) (n : Nat) : List Byte :=
  frame.take n ++ List.replicate (n - frame.length) 0

/-- HPT records what it has shifted out. -/
def State.shiftOut (clocked : List Byte) (s : State) : State :=
  { s with port := { s.port with shifted := shiftedOut s.outgoing clocked.length } }

/-- The pending response becomes absent at the end of a transaction (R175). -/
def State.dropResponse (s : State) : State := { s with port := { s.port with response := none } }

/-- A response of HPT itself; a kind byte that was not clocked in is a free value (assumption log 5). -/
def State.refuseFrame (status : Status) (kind : Option Nat) (s : State) : State :=
  { s with
    port := { s.port with
      response := some (responseFrame status (kind.getD (s.free 0).toNat) []) },
    freeCount := s.freeCount + 1 }

/-- HPT takes the incoming frame of a transaction (R175, R177). -/
def State.takeIncoming (x : Incoming) (s : State) : State :=
  match x with
  | .nothing => s
  | .refused status kind => s.refuseFrame status kind
  | .request c => { s with port := { s.port with request := some c } }

/-- One SPI transaction (R175, R176). In a reset and while a request is in progress the incoming frame
is discarded. -/
def State.transaction (clocked : List Byte) (s : State) : State :=
  let busy := s.port.resetHeld || s.port.request.isSome
  let s := s.shiftOut clocked
  if busy then s else s.dropResponse.takeIncoming (readFrame clocked)

def execSpiTransaction (clocked : List Byte) (s : State) : Host.Outcome State Fault Refusal :=
  .next (s.transaction clocked)

def execNop (s : State) : Host.Outcome State Fault Refusal :=
  .next (s.serve .nop (fun s => s.respond .nop .ok []))

/-! ### Parameters (R178) -/

/-- Whether a threshold lies strictly between those of its neighbours (R50). -/
def State.thresholdDescends (s : State) (k : StageIx) (v : Nat) : Bool :=
  allStages.all (fun j =>
    if j < k then decide (v < s.param (.ufThreshold j))
    else if k < j then decide (s.param (.ufThreshold j) < v) else true)

/-- What a value must meet beyond its fixed range (R50, R51, R77, R159). -/
def State.meetsOthers (s : State) (p : Param) (v : Nat) : Bool :=
  match p with
  | .nominal => v = 50000 || v = 60000
  | .baud => v = 115200 || v = 230400 || v = 460800
  | .ufThreshold k => s.thresholdDescends k v
  | .ofStart =>
    decide (s.param .nominal + 100 ≤ v ∧ v ≤ s.param .nominal + 2000 ∧ v + 200 ≤ s.param .ofFull)
  | .ofFull => decide (s.param .ofStart + 200 ≤ v ∧ v ≤ s.param .nominal + 3000)
  | _ => true

/-- Whether a parameter's owner takes a value as in range. -/
def State.accepts (s : State) (p : Param) (v : Nat) : Bool :=
  decide (p.range.1 ≤ v ∧ v ≤ p.range.2) && s.meetsOthers p v

/-- NOMINAL takes its other value, and the thresholds, OF_START and OF_FULL their defaults for it
(R51). -/
def State.writeNominal (v : Nat) (s : State) : State :=
  if v = s.param .nominal then s
  else
    let s := s.setParam .nominal v
    let s := s.each allStages (fun k => State.setParam (.ufThreshold k) (Param.thresholdDefault v k))
    (s.setParam .ofStart (Param.ofStartDefault v)).setParam .ofFull (Param.ofFullDefault v)

/-- A period is changed, and its deadline set anew with it; the same value changes nothing (R59,
R155). -/
def State.writePeriod (p : Param) (k : DeadlineKey) (v : Nat) (s : State) : State :=
  if v = s.param p then s else (s.setParam p v).setDeadlineWith k v (some v)

/-- START_LIMIT is written; a raised limit serves the crank wait list and runs start selection (R101). -/
def State.writeStartLimit (v : Nat) (s : State) : State :=
  let raised := decide (s.param .startLimit < v)
  let s := s.setParam .startLimit v
  if raised then s.runSelection else s

/-- An accepted write takes effect as the owner's rule states (R178). -/
def State.writeParam (p : Param) (v : Nat) (s : State) : State :=
  match p with
  | .nominal => s.writeNominal v
  | .evalPeriod => s.writePeriod .evalPeriod .evaluation v
  | .pollCycle => s.writePeriod .pollCycle .pollCycle v
  | .startLimit => s.writeStartLimit v
  | .notifyThreshold => (s.setParam .notifyThreshold v).judge
  | p => s.setParam p v

/-- SET_PARAMETER (R178). -/
def State.setParameterRequest (identifier : Nat) (value : Int) (s : State) : State :=
  let c : Instr := .setParameter identifier value
  match Param.ofId identifier with
  | none => s.refuse c .outOfRange
  | some p =>
    if value < 0 ∨ s.accepts p value.toNat = false then s.refuse c .outOfRange
    else if p = .startLimit ∧ value.toNat < s.placesUsed then s.refuse c .busy
    else (s.writeParam p value.toNat).respond c .ok []

/-- GET_PARAMETER (R178). -/
def State.getParameterRequest (identifier : Nat) (s : State) : State :=
  let c : Instr := .getParameter identifier
  match Param.ofId identifier with
  | none => s.refuse c .outOfRange
  | some p => s.respond c .ok (u8 identifier ++ u32 (s.param p))

def execSetParameter (identifier : Nat) (value : Int) (s : State) : Host.Outcome State Fault Refusal :=
  .next (s.serve (.setParameter identifier value) (State.setParameterRequest identifier value))

def execGetParameter (identifier : Nat) (s : State) : Host.Outcome State Fault Refusal :=
  .next (s.serve (.getParameter identifier) (State.getParameterRequest identifier))

/-! ### Lines (R163, R174) -/

/-- The refusal of a LINE_CONFIGURE of a line for a function: it serves a role, or another line is the
zero-cross input (R163). -/
def State.configureRefused (s : State) (l : LineIx) (f : LineFunction) : Bool :=
  !(s.lineUsers l).isEmpty ||
  (f == .zeroCrossIn && (List.finRange 64).any (fun j => j != l && s.lines[j].function == .zeroCrossIn))

/-- LINE_CONFIGURE (R163). -/
def State.lineConfigureRequest (line function polarity : Nat) (filter : Option Nat) (s : State) : State :=
  let c : Instr := .lineConfigure line function polarity filter
  if hl : line < 64 then
    match LineFunction.ofCode function, Polarity.ofCode polarity with
    | some f, some p =>
      if !f.filterInRange (filter.getD f.defaultFilter) then s.refuse c .outOfRange
      else if s.configureRefused ⟨line, hl⟩ f then s.refuse c .lineInUse
      else (s.configureLine ⟨line, hl⟩ f p (filter.getD f.defaultFilter)).respond c .ok []
    | _, _ => s.refuse c .outOfRange
  else s.refuse c .outOfRange

/-- LINE_QUERY (R174). -/
def State.lineQueryRequest (line : Nat) (s : State) : State :=
  if hl : line < 64 then s.respond (.lineQuery line) .ok (lineBytes s.free s ⟨line, hl⟩)
  else s.refuse (.lineQuery line) .outOfRange

def execLineConfigure (line function polarity : Nat) (filter : Option Nat) (s : State) :
    Host.Outcome State Fault Refusal :=
  .next (s.serve (.lineConfigure line function polarity filter)
    (State.lineConfigureRequest line function polarity filter))

def execLineQuery (line : Nat) (s : State) : Host.Outcome State Fault Refusal :=
  .next (s.serve (.lineQuery line) (State.lineQueryRequest line))

/-! ### Notices (R180, R181) -/

/-- Every notice kind, in ascending order of code. -/
def allNotices : List NoticeIx := List.finRange 22

/-- The pending kinds with their notices (R181). -/
def NoticeUnit.pending (u : NoticeUnit) : List (NoticeIx × Notice) :=
  allNotices.filterMap (fun k => (u.held[k]).map (fun n => (k, n)))

/-- The entries of a READ_NOTICES response (R181, R186). -/
def noticeBytes (l : List (NoticeIx × Notice)) : List Byte :=
  u8 l.length ++ l.flatMap (fun p => u8 (p.1 + 1) ++ u8 (p.2.detail.getD 0xFF) ++ u8 p.2.count)

/-- READ_NOTICES (R181). -/
def State.readNoticesRequest (s : State) : State :=
  let body := noticeBytes s.ntu.pending
  ({ s with ntu := { s.ntu with held := Vector.replicate 22 none } }.judge).respond .readNotices .ok body

/-- The levels after the pairs of SET_NOTICE_LEVELS, each a kind code and a level (R180). -/
def setLevels (levels : Vector Nat 22) (pairs : List (Nat × Nat)) : Vector Nat 22 :=
  Vector.ofFn (fun k => (fieldOf pairs (k.val + 1)).getD levels[k])

/-- SET_NOTICE_LEVELS (R180). -/
def State.setLevelsRequest (pairs : List (Nat × Nat)) (s : State) : State :=
  let c : Instr := .setNoticeLevels pairs
  if pairs.isEmpty ∨ noneTwice pairs = false then s.refuse c .malformed
  else if !pairs.all (fun p => decide (1 ≤ p.1 ∧ p.1 ≤ 22 ∧ p.2 ≤ 7)) then s.refuse c .outOfRange
  else ({ s with ntu := { s.ntu with levels := setLevels s.ntu.levels pairs } }.judge).respond c .ok []

def execReadNotices (s : State) : Host.Outcome State Fault Refusal :=
  .next (s.serve .readNotices State.readNoticesRequest)

def execSetNoticeLevels (levels : List (Nat × Nat)) (s : State) : Host.Outcome State Fault Refusal :=
  .next (s.serve (.setNoticeLevels levels) (State.setLevelsRequest levels))

end Sys2Proof.Machine
end

