-- ==== Sys2Proof/Machine/Reset.lean ====
section
/-! DEFINITION. The power-on reset and the warm reset (R173, R183 to R185), with what each block takes
at them (R26, R27, R28, R43, R59, R78, R79, R102, R125, R143, R155, R158, R162, R175, R179). -/

namespace Sys2Proof.Machine

/-! ### What is taken from the image -/

/-- The image of a part without a good one: the defaults of R184. -/
def Image.blank : Image :=
  { stations := Vector.replicate 32 none, slots := Vector.replicate 64 { gen := 1, record := none },
    lines := Vector.replicate 64 Line.fresh.config, params := Param.defaults,
    steps := Vector.replicate 32 none, planLength := 0, autoRun := false, levels := defaultLevels }

/-- The slots a reset loads (R26). -/
def Image.loadedSlots (m : Image) : Vector Slot 64 :=
  Vector.ofFn (fun i => { m.slots[i] with record := m.slots[i].record.map Record.reloaded })

/-- Whether a line serves a role of a loaded record. -/
def Image.serves (m : Image) (l : LineIx) : Bool :=
  allSlots.any (fun i => m.slots[i].record.any (fun r => r.lines.contains l))

/-- Whether a line keeps the level it drove: at a warm reset, a run output that was a run output of the
same polarity and serves a role after the load (R173). -/
def keepsRun (warm : Bool) (m : Image) (l : LineIx) (x : Line) : Bool :=
  warm && x.function == .runOut && m.lines[l].function == .runOut && x.polarity == m.lines[l].polarity &&
  m.serves l

/-- A line after a reset: its configuration loaded, an input's filtered level at its pin, no hold, pulse
or window, and outputs inactive but for the run outputs held (R173). -/
def Line.reloaded (x : Line) (warm : Bool) (m : Image) (l : LineIx) : Line :=
  let c := m.lines[l]
  { x.configured c.function c.polarity c.filter with driven := keepsRun warm m l x && x.driven }

/-! ### The blocks at a reset -/

/-- The runtime state of every block at its reset value, the configuration taken from an image. Time,
mail, deliveries and every queue are empty; the pins, the commands waiting and the free values
stay. -/
def State.blocksReset (warm : Bool) (m : Image) (s : State) : State :=
  { s with
    now := 0,
    port := { s.port with response := none, request := none },
    slots := m.loadedSlots,
    stations := Vector.ofFn (fun d => m.stations[d].map Station.scrubbed),
    link := { State.reset.link with rate := m.params[Param.baud.index] }, bus := State.reset.bus, blu := State.reset.blu, gsq := State.reset.gsq,
    shu := State.reset.shu,
    rsq := { State.reset.rsq with steps := m.steps, length := m.planLength, autoRun := m.autoRun },
    scu := { entries := [], delivered := [] },
    lines := Vector.ofFn (fun l => s.lines[l].reloaded warm m l),
    params := m.params,
    mail := [] }

/-- The deadlines BLU, FLC and BMN set at a reset (R43, R59, R155, R162), in this order (assumption log 49). -/
def State.resetDeadlines (s : State) : State :=
  let e := s.param .evalPeriod
  let p := s.param .pollCycle
  ((s.setDeadlineWith .evaluation e (some e)).setDeadlineWith .pollCycle p (some p)).setDeadline
    .darkTimer (s.param .darkTime)

/-- The states of gensets and feeders are derived from the lines (R26, R79, R102). -/
def State.derive (s : State) : State :=
  let s := s.each (s.gensets.map Prod.fst) State.deriveGenset
  s.each (s.feeders.map Prod.fst) (fun i s => s.modFeeder i s.derivedFeeder)

/-- The pending notices after a reset: RESTARTED, and SETTINGS_LOST when the image was bad (R179). -/
def resetNotices (lost : Bool) : Vector (Option Notice) 22 :=
  let once : Option Notice := some { detail := none, count := 1 }
  ((Vector.replicate 22 none).set NoticeKind.settingsLost (if lost then once else none)).set
    NoticeKind.restarted once

/-- NTU at a reset (R179, R180). -/
def State.resetNtu (lost : Bool) (levels : Vector Nat 22) (s : State) : State :=
  { s with ntu := { s.ntu with held := resetNotices lost, levels := levels } }.judge

/-- A save in flight ends, its area left incomplete (R183). -/
def State.dropSave (s : State) : State := { s with store := { s.store with saving := none } }

/-- A reset, power-on or warm (R173, R184). -/
def State.resetWith (warm : Bool) (s : State) : State :=
  let s := s.dropSave
  let loaded := s.store.load
  let m := loaded.getD Image.blank
  ((s.blocksReset warm m).resetDeadlines.derive).resetNtu loaded.isNone m.levels

/-! ### The steps -/

/-- The RESET input takes a level. -/
def State.holdReset (held : Bool) (s : State) : State := { s with port := { s.port with resetHeld := held } }

/-- Supply is applied (R184). The level of the RESET input stays as it is (assumption log 8). -/
def execPowerOnReset (s : State) : Host.Outcome State Fault Refusal := .next (s.resetWith false)

/-- The RESET input is asserted: the part is held in reset and a save in flight is lost (R183, R185;
assumption log 8). -/
def execResetInputAsserted (s : State) : Host.Outcome State Fault Refusal :=
  .next (s.dropSave.holdReset true)

/-- The RESET input is released: the warm reset proceeds (R185). -/
def execResetInputReleased (s : State) : Host.Outcome State Fault Refusal :=
  .next (if s.port.resetHeld then (s.holdReset false).resetWith true else s)

/-- RESTART puts the part into a warm reset; its response is never shifted out (R185). -/
def execRestart (s : State) : Host.Outcome State Fault Refusal :=
  .next (s.serve .restart (State.resetWith true))

end Sys2Proof.Machine
end

