-- ==== Sys2Proof/Machine/Tick.lean ====
section
/-! DEFINITION. What the part does when no command from outside waits: the next step that is due of
itself, or the passing of time (assumption log 1). -/

namespace Sys2Proof.Machine

/-- The row of the opcode table that takes a message (assumption log 2). -/
def Message.row : Message → Instr
  | .startDemand _ => .startDemandHandover
  | .shuEvaluation _ _ _ _ _ => .shuEvaluationHandover
  | .rsqEvaluation _ _ => .rsqEvaluationHandover
  | .stageRaiseBlu _ => .gridStageRaise
  | .stageRaiseShu _ => .armedSetFiring
  | .stageRaiseRsq _ => .planPause
  | .stageClearRsq _ => .rsqStageClear
  | .darkBlu => .enterDark
  | .darkRsq => .rsqDarkDeclaration
  | .liveBlu => .gridLiveDeclaration
  | .liveGsq => .gsqLiveDeclaration
  | .liveRsq => .rsqLiveDeclaration
  | .gridShu _ _ => .shuGridStateChange
  | .gridGsq _ _ => .gsqGridStateChange
  | .gridRsq _ _ => .rsqGridStateChange
  | .planStart => .planStartReport
  | .planEnd _ => .planEndReport
  | .gensetOnline _ => .rsqGensetOnline
  | .gensetLockout _ => .rsqGensetLockout
  | .feederClosed _ => .rsqFeederClosed
  | .feederFail _ => .rsqFeederBreakerFail
  | .breakerGsq _ _ _ => .genBreakerChange
  | .breakerBmn _ _ _ => .bmnBreakerChange
  | .readyGsq _ _ _ => .gensetReadyChange
  | .statusShu _ _ _ => .feederStatusChange
  | .frequency _ => .rsqFrequencyUpdate

/-- The row that takes the expiry of a genset timer, by the state of the genset (R78). -/
def GensetState.timerRow (i : SlotIx) : GensetState → Instr
  | .cranking => .crankTimeExpiry i
  | .resting => .crankRestExpiry i
  | .runUp => .warmTimeExpiry i
  | .syncing => .syncTimeExpiry i
  | .unloading => .unloadTimeExpiry i
  | .cooldown | .stopped | .online | .lockout => .coolTimeExpiry i

/-- The row of the opcode table that takes an expiry (R162). -/
def State.expiryRow (s : State) : DeadlineKey → Instr
  | .evaluation => .evalPeriodExpiry
  | .stopDelay => .stopDelayExpiry
  | .pollCycle => .pollCycleExpiry
  | .gensetTimer i => ((s.gensetState i).getD .stopped).timerRow i
  | .ufStage k => .ufStageDelayExpiry k
  | .darkTimer => .darkTimerExpiry
  | .liveHold => .liveHoldExpiry
  | .stepTimeout => .stepTimeoutExpiry
  | .stepSettle => if s.rsq.state = .paused then .resumeWaitExpiry else .stepSettleExpiry
  | .darkSettle => .darkSettleExpiry
  | .stagger => .staggerExpiry
  | .recloseDelay => .recloseDelayExpiry
  | .breakerConfirm i => .breakerConfirmExpiry i

/-- The instants at which LNU has something to do on its own, each with its row: filter holds, pulse
ends, window starts and ends (R165, R167, R169, R170). -/
def State.lineEvents (s : State) : List (Nat × Instr) :=
  let holds := (List.finRange 64).filterMap (fun l => (s.lines[l].hold).map (fun h =>
    (h.till, if s.lines[l].function = .zeroCrossIn then .zeroCrossFilterExpiry
      else .inputFilterExpiry l)))
  let pulses := s.feeders.filterMap (fun p => (s.pulseOf p.1).map (fun e =>
    (s.instantOf e, .tripPulseEnd p.1)))
  let windows := s.feeders.filterMap (fun p => (s.windowOf p.1).map (fun w =>
    if w.started then (s.instantOf w.stop, .closeWindowEnd p.1)
    else (s.instantOf w.start, .closeWindowStart p.1)))
  holds ++ pulses ++ windows

/-- The instant at which FLC has something to do on its own, with its row (R149). An allowance or a gap
before a retry waits for the frame being received, which ends four characters after its last byte. -/
def State.linkEvents (s : State) : List (Nat × Instr) :=
  let receiving := (s.link.receiving.map (fun t =>
    (t + s.link.silenceTime, Instr.frameSilenceTimeout))).toList
  let busy := s.link.receiving.isSome
  receiving ++
  match s.link.phase with
  | .free => []
  | .sending t => [(t, .frameTransmitted)]
  | .waiting t => if busy then [] else [(t, .replyAllowanceExpiry)]
  | .retryGap t => if busy then [] else [(t, .turnaroundGapEnd)]
  | .endGap t => [(t, .turnaroundGapEnd)]

/-- The completion of a save, at the latest when its longest time has passed (R182; assumption log
28). -/
def State.saveEvents (s : State) : List (Nat × Instr) :=
  (s.store.saving.map (fun w =>
    (w.since + Config.saveLimitMs * Config.countsPerMs, Instr.saveWriteComplete))).toList

/-- The timed events that are not on the deadline list. -/
def State.timedEvents (s : State) : List (Nat × Instr) := s.lineEvents ++ s.linkEvents ++ s.saveEvents

/-- The earliest timed event. -/
def State.nextTimed (s : State) : Option (Nat × Instr) := minBy Prod.fst s.timedEvents

/-- The row the part takes now of itself, in this order: the request in progress, the oldest message,
the oldest expiry, the pending re-evaluation request, and the earliest timed event that is due. -/
def State.dueRow (s : State) : Option Instr :=
  match s.port.request, s.mail, s.scu.delivered with
  | some c, _, _ => some c
  | none, m :: _, _ => some m.row
  | none, [], k :: _ => some (s.expiryRow k)
  | none, [], [] =>
    if s.blu.reevaluation then some .reevaluationRequest
    else
      match s.nextTimed with
      | some (t, c) => if t ≤ s.now then some c else none
      | none => none

/-- The next millisecond of time base S (R160). -/
def State.nextMs (s : State) : Nat := (s.now / Config.countsPerMs + 1) * Config.countsPerMs

/-- How far time passes in one idle step: to the next millisecond of time base S, and while a frame is being
received no further than one character (assumption logs 1 and 10). -/
def State.nextMoment (s : State) : Nat :=
  if s.link.receiving.isSome then min s.nextMs (s.now + max 1 (frameTime s.link.rate 1)) else s.nextMs

/-- Time passes: to the next moment, or to the earliest timed event before it (R160). -/
def State.timePasses (s : State) : State :=
  match s.nextTimed with
  | some (t, _) => s.runTo (min t s.nextMoment)
  | none => s.runTo s.nextMoment

end Sys2Proof.Machine
end

