-- ==== Sys2Proof/Machine/Dispatch.lean ====
section
/-! DEFINITION. One arm per command: the direct call of its meaning. -/

namespace Sys2Proof.Machine

/-- The effect of a command on everything but the queue of waiting commands. -/
def exec (i : Instr) (s : State) : Host.Outcome State Fault Refusal :=
  match i with
  | .powerOnReset => Sys2Proof.Machine.execPowerOnReset s
  | .resetInputAsserted => Sys2Proof.Machine.execResetInputAsserted s
  | .resetInputReleased => Sys2Proof.Machine.execResetInputReleased s
  | .spiTransaction clocked => Sys2Proof.Machine.execSpiTransaction clocked s
  | .nop => Sys2Proof.Machine.execNop s
  | .register kind fields => Sys2Proof.Machine.execRegister kind fields s
  | .amend h fields => Sys2Proof.Machine.execAmend h fields s
  | .query h => Sys2Proof.Machine.execQuery h s
  | .lookupTag tag => Sys2Proof.Machine.execLookupTag tag s
  | .list first kind => Sys2Proof.Machine.execList first kind s
  | .retire h => Sys2Proof.Machine.execRetire h s
  | .stationAdd address cls units access allowance gap => Sys2Proof.Machine.execStationAdd address cls units access allowance gap s
  | .stationAmend address changes => Sys2Proof.Machine.execStationAmend address changes s
  | .stationDrop address => Sys2Proof.Machine.execStationDrop address s
  | .stationQuery address index => Sys2Proof.Machine.execStationQuery address index s
  | .lineConfigure line function polarity filter => Sys2Proof.Machine.execLineConfigure line function polarity filter s
  | .lineQuery line => Sys2Proof.Machine.execLineQuery line s
  | .setParameter identifier value => Sys2Proof.Machine.execSetParameter identifier value s
  | .getParameter identifier => Sys2Proof.Machine.execGetParameter identifier s
  | .gridStatus => Sys2Proof.Machine.execGridStatus s
  | .start h => Sys2Proof.Machine.execStart h s
  | .stop h => Sys2Proof.Machine.execStop h s
  | .clearLockout h => Sys2Proof.Machine.execClearLockout h s
  | .holdAdd mask => Sys2Proof.Machine.execHoldAdd mask s
  | .holdDrop mask => Sys2Proof.Machine.execHoldDrop mask s
  | .trip h => Sys2Proof.Machine.execTrip h s
  | .reclose h => Sys2Proof.Machine.execReclose h s
  | .clearFault h => Sys2Proof.Machine.execClearFault h s
  | .planWriteStep position kind target value timeout onFailure => Sys2Proof.Machine.execPlanWriteStep position kind target value timeout onFailure s
  | .planSet length autoRun => Sys2Proof.Machine.execPlanSet length autoRun s
  | .planRun => Sys2Proof.Machine.execPlanRun s
  | .planAbort => Sys2Proof.Machine.execPlanAbort s
  | .planQuery first => Sys2Proof.Machine.execPlanQuery first s
  | .readNotices => Sys2Proof.Machine.execReadNotices s
  | .setNoticeLevels levels => Sys2Proof.Machine.execSetNoticeLevels levels s
  | .save => Sys2Proof.Machine.execSave s
  | .saveWriteComplete => Sys2Proof.Machine.execSaveWriteComplete s
  | .restart => Sys2Proof.Machine.execRestart s
  | .evalPeriodExpiry => Sys2Proof.Machine.execEvalPeriodExpiry s
  | .reevaluationRequest => Sys2Proof.Machine.execReevaluationRequest s
  | .stopDelayExpiry => Sys2Proof.Machine.execStopDelayExpiry s
  | .startDemandHandover => Sys2Proof.Machine.execStartDemandHandover s
  | .shuEvaluationHandover => Sys2Proof.Machine.execShuEvaluationHandover s
  | .rsqEvaluationHandover => Sys2Proof.Machine.execRsqEvaluationHandover s
  | .pollCycleExpiry => Sys2Proof.Machine.execPollCycleExpiry s
  | .crankTimeExpiry slot => Sys2Proof.Machine.execCrankTimeExpiry slot s
  | .crankRestExpiry slot => Sys2Proof.Machine.execCrankRestExpiry slot s
  | .warmTimeExpiry slot => Sys2Proof.Machine.execWarmTimeExpiry slot s
  | .syncTimeExpiry slot => Sys2Proof.Machine.execSyncTimeExpiry slot s
  | .unloadTimeExpiry slot => Sys2Proof.Machine.execUnloadTimeExpiry slot s
  | .coolTimeExpiry slot => Sys2Proof.Machine.execCoolTimeExpiry slot s
  | .ufStageDelayExpiry stage => Sys2Proof.Machine.execUfStageDelayExpiry stage s
  | .gridStageRaise => Sys2Proof.Machine.execGridStageRaise s
  | .armedSetFiring => Sys2Proof.Machine.execArmedSetFiring s
  | .planPause => Sys2Proof.Machine.execPlanPause s
  | .rsqStageClear => Sys2Proof.Machine.execRsqStageClear s
  | .darkTimerExpiry => Sys2Proof.Machine.execDarkTimerExpiry s
  | .liveHoldExpiry => Sys2Proof.Machine.execLiveHoldExpiry s
  | .enterDark => Sys2Proof.Machine.execEnterDark s
  | .shuGridStateChange => Sys2Proof.Machine.execShuGridStateChange s
  | .gsqGridStateChange => Sys2Proof.Machine.execGsqGridStateChange s
  | .rsqGridStateChange => Sys2Proof.Machine.execRsqGridStateChange s
  | .rsqDarkDeclaration => Sys2Proof.Machine.execRsqDarkDeclaration s
  | .gridLiveDeclaration => Sys2Proof.Machine.execGridLiveDeclaration s
  | .gsqLiveDeclaration => Sys2Proof.Machine.execGsqLiveDeclaration s
  | .rsqLiveDeclaration => Sys2Proof.Machine.execRsqLiveDeclaration s
  | .planStartReport => Sys2Proof.Machine.execPlanStartReport s
  | .planEndReport => Sys2Proof.Machine.execPlanEndReport s
  | .rsqGensetOnline => Sys2Proof.Machine.execRsqGensetOnline s
  | .rsqGensetLockout => Sys2Proof.Machine.execRsqGensetLockout s
  | .rsqFeederClosed => Sys2Proof.Machine.execRsqFeederClosed s
  | .rsqFeederBreakerFail => Sys2Proof.Machine.execRsqFeederBreakerFail s
  | .stepTimeoutExpiry => Sys2Proof.Machine.execStepTimeoutExpiry s
  | .stepSettleExpiry => Sys2Proof.Machine.execStepSettleExpiry s
  | .resumeWaitExpiry => Sys2Proof.Machine.execResumeWaitExpiry s
  | .darkSettleExpiry => Sys2Proof.Machine.execDarkSettleExpiry s
  | .staggerExpiry => Sys2Proof.Machine.execStaggerExpiry s
  | .recloseDelayExpiry => Sys2Proof.Machine.execRecloseDelayExpiry s
  | .breakerConfirmExpiry slot => Sys2Proof.Machine.execBreakerConfirmExpiry slot s
  | .tripPulseEnd slot => Sys2Proof.Machine.execTripPulseEnd slot s
  | .closeWindowStart slot => Sys2Proof.Machine.execCloseWindowStart slot s
  | .closeWindowEnd slot => Sys2Proof.Machine.execCloseWindowEnd slot s
  | .inputPinChange after line high => Sys2Proof.Machine.execInputPinChange after line high s
  | .inputFilterExpiry line => Sys2Proof.Machine.execInputFilterExpiry line s
  | .genBreakerChange => Sys2Proof.Machine.execGenBreakerChange s
  | .gensetReadyChange => Sys2Proof.Machine.execGensetReadyChange s
  | .bmnBreakerChange => Sys2Proof.Machine.execBmnBreakerChange s
  | .feederStatusChange => Sys2Proof.Machine.execFeederStatusChange s
  | .zeroCrossPinChange after high => Sys2Proof.Machine.execZeroCrossPinChange after high s
  | .zeroCrossFilterExpiry => Sys2Proof.Machine.execZeroCrossFilterExpiry s
  | .frameTransmitted => Sys2Proof.Machine.execFrameTransmitted s
  | .turnaroundGapEnd => Sys2Proof.Machine.execTurnaroundGapEnd s
  | .replyAllowanceExpiry => Sys2Proof.Machine.execReplyAllowanceExpiry s
  | .fieldFrameReceived frame => Sys2Proof.Machine.execFieldFrameReceived frame s
  | .frameSilenceTimeout => Sys2Proof.Machine.execFrameSilenceTimeout s
  | .rsqFrequencyUpdate => Sys2Proof.Machine.execRsqFrequencyUpdate s
  | .frameFirstByteReceived => Sys2Proof.Machine.execFrameFirstByteReceived s

end Sys2Proof.Machine
end

