-- ==== Sys2Proof/Machine/Step.lean ====
section
/-! DEFINITION. One step of the machine: the command at the front of the queue, or, with none waiting,
what the part does of itself (assumption log 1). -/

namespace Sys2Proof.Machine

/-- The part with no command waiting: held in reset it stays as it is, otherwise it takes the row that is
due of itself or lets time pass. -/
def State.idle (s : State) : Host.Outcome State Fault Refusal :=
  if s.port.resetHeld then .next s
  else
    match s.dueRow with
    | some c => exec c s
    | none => .next s.timePasses

/-- One step: the command at the front of the queue is run on the state with the queue's rest. -/
def step (s : State) : Host.Outcome State Fault Refusal :=
  match s.pending with
  | [] => s.idle
  | c :: rest => exec c { s with pending := rest }

/-- The state with the command a word spells put at the front of its queue. No word of the opcode table
spells one, so the state is unchanged (assumption log 27). -/
def State.withFetchWord (s : State) (nbits w : Nat) : State :=
  match decodeTableWord nbits w with
  | some c => { s with pending := c :: s.pending }
  | none => s

end Sys2Proof.Machine
end

