-- ==== Sys2Proof/Safety.lean ====
section
/-! DEFINITION. The conditions under which a step does its own work, and what stays true of the part
through every step: the words the statements about the machine are written in. -/

namespace Sys2Proof.Machine

/-! ### When a step does its work -/

/-- A host request is taken: the part is out of reset, and the request in progress is this one, or none
is (R176; assumption log 7). -/
def State.serves (s : State) (c : Instr) : Prop :=
  s.port.resetHeld = false ∧ (s.port.request = none ∨ s.port.request = some c)

/-- The expiry of a deadline is taken: the part is out of reset, and `s0` is the state in which its
owner acts (R162; assumption log 3). -/
def State.expires (s : State) (k : DeadlineKey) (s0 : State) : Prop :=
  s.port.resetHeld = false ∧ s.expire k = some s0

/-- An event handed to a block is taken: the part is out of reset, `a` is what the oldest such event
carries, and `s0` is the state without it (assumption log 2). -/
def State.takes {α : Type} (s : State) (sel : Message → Option α) (a : α) (s0 : State) : Prop :=
  s.port.resetHeld = false ∧ ∃ rest, takeFirst sel s.mail = some (a, rest) ∧ s0 = { s with mail := rest }

/-- A notice kind pending after one more raise of it (R179). -/
def State.noticed (s t : State) (k : NoticeIx) (detail : Option Nat) : Prop :=
  t.ntu.held[k] = some { detail := detail,
                         count := match s.ntu.held[k] with
                           | none => 1
                           | some n => min 255 (n.count + 1) }

/-- One notice has been raised, and nothing else of NTU differs but what it makes of NOTIFY (R179, R180). -/
def State.noticedAlone (s t : State) (k : NoticeIx) (detail : Option Nat) : Prop :=
  s.noticed t k detail ∧ t.ntu = (s.raise k detail).ntu

/-- Nothing calls for a start: the effective start demand is 0 and no genset waits to crank, so that
start selection starts nothing (R92). -/
def State.quiet (s : State) : Prop := s.gsq.demand = 0 ∧ s.gsq.waitList = []

/-- No dead-bus permit is held, and none may be granted (R98). -/
def State.noPermit (s : State) : Prop := s.gsq.permitHolder = none ∧ s.permitFree = false

/-- A deadline stands as it stood: the same entries of its key, and the same waiting delivery. -/
def State.keepsDeadline (s t : State) (k : DeadlineKey) : Prop :=
  (∀ d : Deadline, d.key = k → (d ∈ t.scu.entries ↔ d ∈ s.scu.entries)) ∧
  (k ∈ t.scu.delivered ↔ k ∈ s.scu.delivered)

/-- The deadlines after a genset has entered a state: its timer is set anew, to the seconds the state's
parameter gives, in the states that have one, and cancelled in the others; no other deadline differs (R78, R82,
R83, R84, R88, R89, R90). -/
def State.timed (s : State) (i : SlotIx) : GensetState → Schedule
  | .cranking => (s.setDeadline (.gensetTimer i) (s.param .crankTime * 1000)).scu
  | .resting => (s.setDeadline (.gensetTimer i) (s.param .crankRest * 1000)).scu
  | .runUp => (s.setDeadline (.gensetTimer i) (s.param .warmTime * 1000)).scu
  | .syncing => (s.setDeadline (.gensetTimer i) (s.param .syncTime * 1000)).scu
  | .unloading => (s.setDeadline (.gensetTimer i) (s.param .unloadTime * 1000)).scu
  | .cooldown => (s.setDeadline (.gensetTimer i) (s.param .coolTime * 1000)).scu
  | .stopped | .online | .lockout => (s.cancel (.gensetTimer i)).scu

/-- A genset has entered a state from `s`: it is in its slot in `t`, with its run output at the level its state
asks for, its timer set or cancelled as the state asks, and no other deadline touched (R78). -/
def State.sequenced (s t : State) (i : SlotIx) (g : Genset) : Prop :=
  t.genset? i = some g ∧ t.lines[g.runLine].driven = g.state.runs ∧ t.scu = s.timed i g.state

/-- No slot but one differs, and there only the fields of the record's kind, and its freshness where
`stale` says that it is cleared. -/
def State.onlyBody (s t : State) (i : SlotIx) (stale : Bool) : Prop :=
  ∃ r b, s.record? i = some r ∧
    t.slots = s.slots.set i
      { gen := s.gen i, record := some { r with body := b, fresh := r.fresh && !stale } }

/-- Every line keeps its configuration, its pin and its filter. -/
def State.onlyDriven (s t : State) : Prop :=
  ∀ l : LineIx, { t.lines[l] with
    driven := s.lines[l].driven, pulse := s.lines[l].pulse, window := s.lines[l].window } = s.lines[l]

/-- No line but one differs. -/
def State.onlyLine (s t : State) (l : LineIx) : Prop := t.lines = s.lines.set l t.lines[l]

/-- A trip pulse has begun on a feeder (R103, R104, R169, R171): its trip line is driven with the pulse's
end time, a close window of it is ended, it is OPENING with the cause pending and, where its status line
reads closed, the confirm deadline set, or TRIPPED at once where its status line reads open; no armed set
holds it, nor the batch. -/
def State.pulsed (s t : State) (i : SlotIx) (f : Feeder) (c : TripCause) : Prop :=
  t.feeder? i = some (if f.statusLine.any (fun l => !s.filtered l)
    then { f with state := .tripped, cause := some c, pendingCause := none, lastChange := s.timeS }
    else { f with state := .opening, cause := none, pendingCause := some c, lastChange := s.timeS }) ∧
  t.isSet (.breakerConfirm i) = (f.statusLine.any s.filtered ||
    (f.statusLine.isNone && s.isSet (.breakerConfirm i))) ∧
  t.lines[f.tripLine].driven = true ∧
  t.lines[f.tripLine].pulse = some (s.timeS + BitVec.ofNat 32 (s.param .tripWidth)) ∧
  (∀ l, f.closeLine = some l → t.lines[l].window = none) ∧
  (∀ l, f.closeLine = some l → l ≠ f.tripLine → s.lines[l].window.isSome = true →
    t.lines[l].driven = false) ∧
  (∀ l : LineIx, l ≠ f.tripLine → f.closeLine ≠ some l → t.lines[l] = s.lines[l]) ∧
  (∀ k : StageIx, i ∉ t.shu.armed[k]) ∧ i ∉ t.shu.batch

/-- Every plan cap is removed, and no slot differs otherwise (R37). -/
def State.capsDropped (s t : State) : Prop :=
  ∀ i : SlotIx, t.slots[i] =
    { gen := s.gen i,
      record := (s.record? i).map (fun r => match r.body with
        | .pv p => { r with body := .pv { p with planCap := none } }
        | _ => r) }

/-- The grid has entered DARK (R32, R33, R37, R40): the results are cleared, the effective demands are 0, every
PV setpoint is 0 with 0 in the field link's hands or last acknowledged, the stop candidate is dropped with its
delay, and the change is announced. No other field of a record differs, but the plan caps of a restoration, which
go, and a value last sent as a free line takes the first request at once. -/
def State.inDark (s t : State) : Prop :=
  t.blu = { s.blu with
    grid := .dark, results := none, effStart := 0, effShed := 0, stopCandidate := none } ∧
  t.scu = (s.cancel .stopDelay).scu ∧
  (∀ i, s.pv? i = none → t.slots[i] = s.slots[i]) ∧
  (∀ i r p, s.record? i = some r → r.body = .pv p → ∃ p' : Pv,
    t.slots[i] = { gen := s.gen i, record := some { r with body := .pv p' } } ∧
    p' = { p with
      setpoint := 0, planCap := if s.blu.grid = .restoring then none else p.planCap,
      lastSent := p'.lastSent } ∧
    (s.link.phase ≠ .free → p'.lastSent = p.lastSent)) ∧
  (∀ i p, s.pv? i = some p → (p.lastSent ≠ some 0 ∨ p.lastAck ≠ some 0) → t.inHands i = some 0) ∧
  (s.link.phase ≠ .free → t.stations = s.stations ∧
    { t.link with setpoints := s.link.setpoints } = s.link ∧
    (∀ i, s.pv? i = none → t.queued i = s.queued i) ∧
    ∀ i p, s.pv? i = some p → t.queued i =
      if p.lastSent = some 0 ∧ p.lastAck = some 0 then s.queued i else some 0) ∧
  t.mail = s.mail ++ [.gridGsq s.blu.grid .dark, .gridShu s.blu.grid .dark,
    .gridRsq s.blu.grid .dark, .startDemand 0] ∧
  { t with blu := s.blu, slots := s.slots, stations := s.stations, link := s.link, scu := s.scu,
           mail := s.mail } = s

/-- The grid has become NORMAL and an evaluation has followed at once (R29, R35, R37): results stand, the
grid is NORMAL, SHORT or EMERGENCY, and the changes are announced in their order. The evaluation is the one the
evaluation period brings: `w` is the state with the grid NORMAL, the effective demands 0, the plan caps of a
restoration dropped and the change announced, and `t` is what an evaluation period expiry, delivered in `w`,
leaves. -/
def State.evaluatedLive (s t : State) : Prop :=
  (∃ w : State, (s.blu.grid = .restoring → s.capsDropped w) ∧
    (s.blu.grid ≠ .restoring → w.slots = s.slots) ∧
    w.blu = { s.blu with grid := .normal, effStart := 0, effShed := 0 } ∧
    w.mail = s.mail ++ [.gridGsq s.blu.grid .normal, .gridShu s.blu.grid .normal,
      .gridRsq s.blu.grid .normal, .startDemand 0] ∧
    { w with slots := s.slots, blu := s.blu, mail := s.mail } = s ∧
    exec .evalPeriodExpiry { w with scu := { w.scu with
      delivered := .evaluation :: w.scu.delivered } } = .next t) ∧
  t.blu.results.isSome = true ∧ t.blu.grid ∈ [GridState.normal, .short, .emergency] ∧
  t.blu.reevaluation = false ∧
  (∃ more, t.mail = s.mail ++ [.gridGsq s.blu.grid .normal, .gridShu s.blu.grid .normal,
    .gridRsq s.blu.grid .normal, .startDemand 0] ++ more) ∧
  (s.blu.grid = .restoring → ∀ i p, t.pv? i = some p → p.planCap = none) ∧
  { t with blu := s.blu, slots := s.slots, stations := s.stations, link := s.link, scu := s.scu,
           mail := s.mail, ntu := s.ntu } = s

/-- A line holds its level through a warm reset: it drove as a run output, is loaded as a run output with the
same polarity, and serves a record of the image (R173). -/
def State.runHeld (s : State) (warm : Bool) (m : Image) (l : LineIx) : Prop :=
  warm = true ∧ s.lines[l].driven = true ∧ s.lines[l].function = .runOut ∧
  m.lines[l].function = .runOut ∧ s.lines[l].polarity = m.lines[l].polarity ∧
  ∃ (i : SlotIx) (r : Record), m.slots[i].record = some r ∧ l ∈ r.lines

/-! ### Grants and releases of the permit (R97, R98, R99) -/

/-- One genset comes before another: the lower start rank first, the lower slot among equals (R81, R92, R98). -/
def State.ranksBefore (s : State) (i j : SlotIx) : Prop :=
  ∀ g x, s.genset? i = some g → s.genset? j = some x → g.rank < x.rank ∨ (g.rank = x.rank ∧ i < j)

/-- The free permit may be granted (R98). -/
def State.grantable (s : State) : Prop :=
  (s.blu.grid = .dark ∨ s.blu.grid = .restoring) ∧ s.gsq.live = false ∧
  (∀ l : LineIx, s.lines[l].function = .genBreakerIn → s.lines[l].filtered = false) ∧
  s.gsq.permitHolder = none

/-- GSQ tries a grant: the free permit goes to the waiter first by rank, whose permit output is asserted; with
no free permit or no waiter nothing changes (R98). -/
def State.grantTried (s t : State) : Prop :=
  ((¬ s.grantable ∨ s.gsq.waiters = []) → t = s) ∧
  ∀ i g, s.grantable → i ∈ s.gsq.waiters → s.genset? i = some g →
    (∀ j ∈ s.gsq.waiters, j ≠ i → (s.genset? j).isSome = true ∧ s.ranksBefore i j) →
    t = { s with
      gsq := { s.gsq with permitHolder := some i },
      lines := match g.permitLine with
        | some l => s.lines.set l { s.lines[l] with driven := true }
        | none => s.lines }

/-- The holder releases the permit: the holder is none and its permit output inactive (R99). -/
def State.released (s t : State) (g : Genset) : Prop :=
  t = { s with
    gsq := { s.gsq with permitHolder := none },
    lines := match g.permitLine with
      | some l => s.lines.set l { s.lines[l] with driven := false }
      | none => s.lines }

/-- Another breaker has closed: a permit that is held is released, and a grant tried (R98, R99). -/
def State.permitGivenUp (s t : State) : Prop :=
  (s.gsq.permitHolder = none → t = s) ∧
  ∀ j x, s.gsq.permitHolder = some j → s.genset? j = some x → ∃ u, s.released u x ∧ u.grantTried t

/-- A genset with permit line `p` enters SYNCING: with a permit line, on a bus whose live view is clear, it joins
the waiters, at most once; otherwise they stay (R97). -/
def State.waitersWith (s : State) (i : SlotIx) (p : Option LineIx) : List SlotIx :=
  if s.gsq.live = false ∧ p.isSome = true ∧ i ∉ s.gsq.waiters then s.gsq.waiters ++ [i] else s.gsq.waiters

/-- The grant a genset tries as it joins the waiters: `u` is the state with the genset in SYNCING (R97, R98). -/
def State.joinTried (u v : State) (p : Option LineIx) : Prop :=
  (u.gsq.live = false → p.isSome = true → u.grantTried v) ∧
  (u.gsq.live = true ∨ p = none → v = u)

/-- A genset, `g` but for its state, has come to SYNCING, with all that its entry changes but the grant it tries
(`State.joinTried`), the notices and BLU (R84, R97). -/
def State.comesToSync (s u : State) (i : SlotIx) (g : Genset) : Prop :=
  s.sequenced u i { g with state := .syncing } ∧ s.onlyBody u i false ∧ s.onlyLine u g.runLine ∧
  u.gsq = { s.gsq with
    waitList := s.gsq.waitList.filter (fun j => j != i), waiters := s.waitersWith i g.permitLine } ∧
  { u with slots := s.slots, lines := s.lines, scu := s.scu, gsq := s.gsq, ntu := s.ntu, blu := s.blu } = s

/-- A genset, `g` as it was, has entered ONLINE, with all that its entry changes but the permit and the lists of
GSQ (R85). -/
def State.cameOnline (s u : State) (i : SlotIx) (g : Genset) : Prop :=
  s.sequenced u i { g with state := .online, attempts := 0, onlineSince := some s.timeS } ∧
  s.onlyBody u i true ∧ u.blu = { s.blu with reevaluation := true } ∧
  s.noticedAlone u NoticeKind.gensetOnline (some i.val) ∧ u.mail = s.mail ++ [.gensetOnline i] ∧
  { u with slots := s.slots, lines := s.lines, scu := s.scu, ntu := s.ntu, blu := s.blu, gsq := s.gsq,
           mail := s.mail } = s

/-- A genset has moved on in its sequence: `g` is what it is now, its slot, its run line, its timer and the lists
of GSQ differ, and nothing else. It is off the crank wait list (R78, R81). -/
def State.movedTo (s u : State) (i : SlotIx) (g : Genset) : Prop :=
  s.sequenced u i g ∧ s.onlyBody u i false ∧ s.onlyLine u g.runLine ∧
  u.gsq = { s.gsq with waitList := s.gsq.waitList.filter (fun j => j != i) } ∧
  { u with slots := s.slots, lines := s.lines, scu := s.scu, gsq := s.gsq } = s

/-! ### How the plan works its steps (R133 to R139) -/

/-- The step at a position becomes ACTIVE, both marks clear, and its timeout is set when it has one (R133). -/
def State.stepActive (s u : State) (p : PosIx) (x : PlanStep) : Prop :=
  ∃ v : State, v = { s with rsq := { s.rsq with
      status := s.rsq.status.set p .active, orderGiven := false, closeMade := false } } ∧
    u = if x.timeout = 0 then v else v.setDeadline .stepTimeout (x.timeout * 1000)

/-- A step ends in the event that activates it, DONE or by a failure: it was written since the start and fails
its step check, its genset is ONLINE, in LOCKOUT or at fault, its feeder is CLOSED, in BREAKER_FAIL or
without a close line, or its target is gone (R129, R133, R135, R136). -/
def State.endsAtOnce (u : State) (p : PosIx) (x : PlanStep) (done : Bool) : Prop :=
  (u.rsq.written[p] = true ∧ u.stepCheck p = false ∧ done = false) ∨
  ((u.rsq.written[p] = false ∨ u.stepCheck p = true) ∧
    match x.action with
    | .startGenset h _ =>
      ((∀ i g, u.resolve h = some i → u.genset? i ≠ some g) ∧ done = false) ∨
      ∃ i g, u.resolve h = some i ∧ u.genset? i = some g ∧
        ((g.state = .online ∧ done = true) ∨
          (g.state ≠ .online ∧ (g.state = .lockout ∨ g.fault = true) ∧ done = false))
    | .closeFeeder h =>
      ((∀ i f, u.resolve h = some i → u.feeder? i ≠ some f) ∧ done = false) ∨
      ∃ i f, u.resolve h = some i ∧ u.feeder? i = some f ∧
        ((f.state = .closed ∧ done = true) ∨
          (f.state ≠ .closed ∧ (f.state = .breakerFail ∨ f.closeLine = none) ∧ done = false))
    | .releasePv h _ => u.resolve h = none ∧ done = false
    | .settle _ | .gateReserve _ => False)

/-- A start order moves a genset out of STOPPED, UNLOADING or COOLDOWN: the state R80 gives it, with its run output
and timer; the entry to ONLINE is noticed, handed to RSQ and asks for a re-evaluation; a genset that comes to
SYNCING with a permit line on a bus that is not live joins the permit waiters, and a grant is tried; a queued
UNLOAD of it is removed (R80, R82, R84, R85, R89, R90, R97, R98, R154). -/
def State.started (s t : State) (i : SlotIx) (g : Genset) : Prop :=
  ∃ (u : State) (g' : Genset), s.sequenced u i g' ∧
    g'.state = (match g.state with
      | .stopped => if s.filtered g.readyLine then .runUp else .cranking
      | .unloading => .online
      | _ => if s.filtered g.breakerLine then .online else .syncing) ∧
    g' = { g with
      state := g'.state, attempts := if g'.state = .online then 0 else g.attempts,
      onlineSince := if g'.state = .online then some s.timeS else g.onlineSince } ∧
    s.onlyBody u i (g'.state == .online) ∧ s.onlyLine u g.runLine ∧
    (g'.state = .online → s.noticedAlone u NoticeKind.gensetOnline (some i.val) ∧
      u.blu = { s.blu with reevaluation := true } ∧ u.mail = s.mail ++ [.gensetOnline i]) ∧
    (g'.state ≠ .online → u.ntu = s.ntu ∧ u.blu = s.blu ∧ u.mail = s.mail) ∧
    u.gsq = { s.gsq with
      waiters := if g'.state = .syncing then s.waitersWith i g.permitLine else s.gsq.waiters } ∧
    u.link = (if g.state = .unloading
      then { s.link with commands := s.link.commands.filter (fun e => e.slot != i) } else s.link) ∧
    { u with slots := s.slots, lines := s.lines, scu := s.scu, ntu := s.ntu, blu := s.blu,
             gsq := s.gsq, link := s.link, mail := s.mail } = s ∧
    (g'.state = .syncing → u.joinTried t g.permitLine) ∧ (g'.state ≠ .syncing → t = u)

/-- RSQ gives the start order of a genset, and GSQ takes it: a STOPPED genset without a free place waits for
one; with nothing else calling for a start, one that may start enters the state R80 gives it; in any other state the order changes nothing (R80, R81, R135). -/
def State.ordered (u t : State) (i : SlotIx) (g : Genset) : Prop :=
  ∃ v : State, v = { u with rsq := { u.rsq with orderGiven := true } } ∧ t = v.planStartOrder i ∧
    ((g.fault = true ∨ g.state ∈ [.cranking, .resting, .runUp, .syncing, .online, .lockout]) → t = v) ∧
    (g.fault = false → g.state = .stopped → u.param .startLimit ≤ u.placesUsed →
      t = { v with gsq := { u.gsq with waitList :=
        if i ∈ u.gsq.waitList then u.gsq.waitList else u.gsq.waitList ++ [i] } }) ∧
    (g.fault = false → u.quiet →
      ((g.state = .stopped ∧ u.placesUsed < u.param .startLimit) ∨ g.state = .unloading ∨
        g.state = .cooldown) → v.started t i g)

/-- A plan cap is set, and a setpoint above it lowered to it (R137). -/
def State.capSet (u t : State) (i : SlotIx) (cap : Nat) : Prop :=
  (∀ p, u.pv? i = some p → u.onlyBody t i false ∧
    t.pv? i = some { p with planCap := some cap, setpoint := min p.setpoint cap }) ∧
  (u.pv? i = none → t = u) ∧ { t with slots := u.slots } = u

/-- The step settle of a SETTLE step is set with the live view set, the frequency within NOMINAL ± LIVE_BAND
and no step settle running, and not otherwise (R138). -/
def State.settleBegins (u t : State) (ms : Nat) : Prop :=
  ((u.rsq.live = true ∧ u.isSet .stepSettle = false ∧
      u.param .nominal ≤ u.bus.frequency + u.param .liveBand ∧
      u.bus.frequency ≤ u.param .nominal + u.param .liveBand) →
    t = u.setDeadline .stepSettle ms) ∧
  ((u.rsq.live = false ∨ u.isSet .stepSettle = true ∨
      u.bus.frequency + u.param .liveBand < u.param .nominal ∨
      u.param .nominal + u.param .liveBand < u.bus.frequency) → t = u)

/-- The action of an ACTIVE step that does not end at once (R135 to R139). -/
def State.goesOn (u t : State) (x : PlanStep) : Prop :=
  match x.action with
  | .startGenset h dead =>
    ∃ i g, u.resolve h = some i ∧ u.genset? i = some g ∧
      ((dead = true ∨ u.rsq.live = true) → u.ordered t i g) ∧
      (dead = false → u.rsq.live = false → t = u)
  | .closeFeeder _ => t = u
  | .releasePv h cap => ∃ i, u.resolve h = some i ∧ u.capSet t i cap
  | .settle ms => u.settleBegins t ms
  | .gateReserve _ => t = u

/-- The step at a position ends, DONE or by a failure. Where the cursor moves on to a next position, `moved`,
the step is DONE or SKIPPED; a DONE asks for a re-evaluation, and a failure cancels the step settle and is
noticed. Otherwise the plan ends, COMPLETE or FAILED: the caps are removed, both step deadlines cancelled, and
the end is reported (R133, R134). -/
def State.stepEnds (s t : State) (p : PosIx) (x : PlanStep) (done moved : Bool) : Prop :=
  moved = decide ((done = true ∨ x.onFailure = .skip) ∧ p.val + 1 < 32 ∧ p.val + 1 < s.rsq.length) ∧
  t.isSet .stepTimeout = false ∧
  (∀ k, k ≠ .stepTimeout → k ≠ .stepSettle → s.keepsDeadline t k) ∧
  t.blu = { s.blu with reevaluation := s.blu.reevaluation || done } ∧
  (done = false → t.isSet .stepSettle = false ∧ s.noticed t NoticeKind.planStepFailed (some p.val)) ∧
  (moved = true →
    t.rsq = { s.rsq with
      status := s.rsq.status.set p (if done then .done else .skipped),
      cursor := Fin.ofNat 32 (p.val + 1) } ∧
    (done = true → s.keepsDeadline t .stepSettle ∧ t.ntu = s.ntu) ∧
    { t with rsq := s.rsq, scu := s.scu, blu := s.blu, ntu := s.ntu } = s) ∧
  (moved = false → t.isSet .stepSettle = false ∧ s.capsDropped t ∧
    ((done = true ∨ x.onFailure = .skip) →
      t.rsq = { s.rsq with
        state := .complete, status := s.rsq.status.set p (if done then .done else .skipped) } ∧
      s.noticed t NoticeKind.planComplete none ∧ t.mail = s.mail ++ [.planEnd true]) ∧
    (done = false → x.onFailure = .abort →
      t.rsq = { s.rsq with state := .failed, status := s.rsq.status.set p .failed } ∧
      t.mail = s.mail ++ [.planEnd false]) ∧
    { t with rsq := s.rsq, scu := s.scu, blu := s.blu, ntu := s.ntu, mail := s.mail,
             slots := s.slots } = s)

/-- RSQ works the step at the cursor, and the steps after it while each ends at once, in one event: `t` is the
state it leaves. While the plan is not RUNNING, or the grid state not RESTORING, the step stays as it is
(R38, R133; assumption log 16). -/
inductive PlanWorks : State → State → Prop where
  | rests (s : State) : (s.rsq.state = .running → s.blu.grid ≠ .restoring) → PlanWorks s s
  | goesOn (s u t : State) (p : PosIx) (x : PlanStep) :
      s.rsq.state = .running → s.blu.grid = .restoring → s.rsq.cursor = p →
      s.rsq.steps[p] = some x → s.stepActive u p x → (∀ done, ¬ u.endsAtOnce p x done) →
      u.goesOn t x → PlanWorks s t
  | ends (s u v t : State) (p : PosIx) (x : PlanStep) (done moved : Bool) :
      s.rsq.state = .running → s.blu.grid = .restoring → s.rsq.cursor = p →
      s.rsq.steps[p] = some x → s.stepActive u p x → u.endsAtOnce p x done →
      u.stepEnds v p x done moved → (moved = true → PlanWorks v t) → (moved = false → t = v) →
      PlanWorks s t

/-- The step at the cursor ends, and where the cursor has moved on the plan works on from there (R133, R134). -/
def State.stepFinished (s t : State) (p : PosIx) (x : PlanStep) (done : Bool) : Prop :=
  ∃ (v : State) (moved : Bool), s.stepEnds v p x done moved ∧ (moved = true → PlanWorks v t) ∧
    (moved = false → t = v)

/-- The positions the plan can come to hold steps: the one at the cursor and those after it below the length,
as R126 and R129 see to. -/
def State.planFilled (s : State) : Prop :=
  ∀ q : PosIx, (q = s.rsq.cursor ∨ (s.rsq.cursor < q ∧ q.val < s.rsq.length)) →
    (s.rsq.steps[q]).isSome = true

/-- The step check of a stored step: its target resolves to a record of its kind that is not RETIRING, and a
dead-bus start names a genset with a permit line (R129). -/
def State.stepSound (s : State) (x : PlanStep) : Prop :=
  (∀ h k, x.action.target = some h → x.action.kind = some k → ∃ i r, s.resolve h = some i ∧
    s.record? i = some r ∧ r.body.kind = k ∧ r.lifecycle ≠ .retiring) ∧
  (∀ h, x.action = .startGenset h true →
    ∃ i g, s.resolve h = some i ∧ s.genset? i = some g ∧ g.permitLine.isSome = true)

/-- A position below the length fails the plan check: it holds no step that passes the step check, or it is
the first START_GENSET step and its dead-bus flag is clear (R129; as a failing position: assumption log
30). -/
def State.positionFails (s : State) (p : PosIx) : Prop :=
  p.val < s.rsq.length ∧
  ((∀ x, s.rsq.steps[p] = some x → ¬ s.stepSound x) ∨
    ∃ x h, s.rsq.steps[p] = some x ∧ x.action = .startGenset h false ∧
      ∀ (q : PosIx) (y : PlanStep) (h' : Handle) (d : Bool), q < p → s.rsq.steps[q] = some y →
        y.action ≠ .startGenset h' d)

/-- The step at the cursor is ACTIVE in a plan RUNNING or PAUSED. -/
def State.active (s : State) (x : PlanStep) : Prop :=
  (s.rsq.state = .running ∨ s.rsq.state = .paused) ∧ s.rsq.status[s.rsq.cursor] = .active ∧
  s.rsq.steps[s.rsq.cursor] = some x

/-- A close request of a feeder is made and taken: the close window opens on its close line, and the feeder is
CLOSE_PENDING, or, with CLOSE_DELAY 0, the window starts at once (R105, R170). -/
def State.closeBegun (s t : State) (i : SlotIx) (f : Feeder) (l : LineIx) : Prop :=
  s.onlyBody t i false ∧ s.onlyLine t l ∧
  t.lines[l] = { s.lines[l] with
    driven := if s.param .closeDelay = 0 then true else s.lines[l].driven,
    window := some
      { start := s.timeS + BitVec.ofNat 32 (s.param .closeDelay),
        stop := s.timeS + BitVec.ofNat 32 (s.param .closeDelay) +
          BitVec.ofNat 32 (s.param .closeWidth),
        started := decide (s.param .closeDelay = 0) } } ∧
  t.feeder? i = some { f with
    state := if s.param .closeDelay = 0
      then (if f.statusLine.any s.filtered then .closed else .closing) else .closePending,
    cause := none, lastChange := s.timeS } ∧
  t.scu = (if s.param .closeDelay = 0 ∧ f.statusLine.any (fun x => !s.filtered x) = true
    then s.setDeadline (.breakerConfirm i) (s.param .confirmTime) else s).scu ∧
  t.mail = s.mail ++ (if s.param .closeDelay = 0 ∧ f.statusLine.any s.filtered = true
    then [.feederClosed i] else []) ∧
  { t with slots := s.slots, lines := s.lines, scu := s.scu, mail := s.mail } = s

/-- The deadline list as a trip pulse begins on a feeder: its confirm deadline set to CONFIRM_TIME where its
status line reads closed, cancelled where that line reads open already (R103, R104). -/
def State.confirming (s : State) (i : SlotIx) (f : Feeder) : Schedule :=
  if f.statusLine.any s.filtered = true then
    (s.setDeadline (.breakerConfirm i) (s.param .confirmTime)).scu
  else if f.statusLine.isSome = true then (s.cancel (.breakerConfirm i)).scu
  else s.scu

/-- Trip pulses have begun on the feeders `hit` names, together (R103, R104, R169, R171): each one's trip line is
driven with the pulse's end time and a close window of it is ended; its confirm deadline is set to CONFIRM_TIME
where its status line reads closed, and cancelled where that line reads open; no other line differs, and no
other deadline but those outside `kept`. -/
def State.pulsedTogether (s t : State) (hit : SlotIx → Feeder → Prop) (kept : DeadlineKey → Prop) : Prop :=
  (∀ i f, hit i f →
    t.lines[f.tripLine] = { s.lines[f.tripLine] with
      driven := true, pulse := some (s.timeS + BitVec.ofNat 32 (s.param .tripWidth)) } ∧
    (∀ l, f.closeLine = some l → t.lines[l] = if s.lines[l].window.isSome = true
      then { s.lines[l] with driven := false, window := none } else s.lines[l]) ∧
    (f.statusLine.any s.filtered = true → t.isSet (.breakerConfirm i) = true ∧
      (s.param .confirmTime ≠ 0 →
        (⟨.breakerConfirm i, s.timeS + BitVec.ofNat 32 (s.param .confirmTime), none⟩ : Deadline) ∈
          t.scu.entries) ∧
      ∀ d ∈ t.scu.entries, d.key = .breakerConfirm i →
        d.due = s.timeS + BitVec.ofNat 32 (s.param .confirmTime)) ∧
    (f.statusLine.any (fun l => !s.filtered l) = true → t.isSet (.breakerConfirm i) = false)) ∧
  (∀ l : LineIx, (∀ i f, hit i f → l ≠ f.tripLine ∧ f.closeLine ≠ some l) → t.lines[l] = s.lines[l]) ∧
  ∀ k, kept k → (∀ i f, hit i f → f.statusLine.isSome = true → k ≠ .breakerConfirm i) →
    s.keepsDeadline t k

/-- The head of the batch is pulsed with cause SHED_RESERVE, `rest` behind it: the time of the last batch pulse
is now, and the stagger deadline is set to STAGGER_GAP while members remain; an emptied batch asks for a
re-evaluation (R103, R114, R115). -/
def State.batchPulsed (s t : State) (i : SlotIx) (f : Feeder) (rest : List SlotIx) : Prop :=
  ∃ left : List SlotIx, left = rest.filter (fun j => j != i) ∧
    s.pulsed t i f .shedReserve ∧ s.onlyBody t i false ∧ s.onlyDriven t ∧
    s.noticed t NoticeKind.shedExecuted (some i.val) ∧
    t.ntu = (s.raise NoticeKind.shedExecuted (some i.val)).ntu ∧
    (∀ k : StageIx, t.shu.armed[k] = s.shu.armed[k].filter (fun j => j != i)) ∧
    t.shu = { s.shu with armed := t.shu.armed, batch := left, lastPulse := some s.timeS } ∧
    t.scu = (if left = [] then s.confirming i f
      else (({ s with scu := s.confirming i f } : State).setDeadline .stagger (s.param .staggerGap)).scu) ∧
    t.blu = { s.blu with reevaluation := s.blu.reevaluation || left.isEmpty } ∧
    { t with slots := s.slots, shu := s.shu, scu := s.scu, ntu := s.ntu, blu := s.blu,
             lines := s.lines } = s

/-- The head of the batch fails its recheck and leaves, `rest` behind it: a feeder in TRIP_PENDING returns to
CLOSED, with the hand-over to RSQ, and an emptied batch asks for a re-evaluation (R114, R115). -/
def State.batchLeft (s u : State) (i : SlotIx) (rest : List SlotIx) : Prop :=
  ∃ left : List SlotIx, left = rest.filter (fun j => j != i) ∧
    u.shu = { s.shu with batch := left } ∧
    u.blu = { s.blu with reevaluation := s.blu.reevaluation || left.isEmpty } ∧
    (∀ f, s.feeder? i = some f → f.state = .tripPending → s.onlyBody u i false ∧
      u.feeder? i = some { f with state := .closed, cause := none, lastChange := s.timeS } ∧
      u.mail = s.mail ++ [.feederClosed i]) ∧
    ((∀ f, s.feeder? i = some f → f.state ≠ .tripPending) → u.slots = s.slots ∧ u.mail = s.mail) ∧
    { u with slots := s.slots, shu := s.shu, blu := s.blu, mail := s.mail } = s

/-- A stagger expiry works the batch: heads that fail their recheck leave it, one after another, until one that
is TRIP_PENDING, without a hold and sheddable has been pulsed or the batch is empty (R114). -/
inductive StaggerRuns : State → State → Prop where
  | empty (s : State) : s.shu.batch = [] → StaggerRuns s s
  | pulses (s t : State) (i : SlotIx) (rest : List SlotIx) (f : Feeder) :
      s.shu.batch = i :: rest → s.feeder? i = some f → f.state = .tripPending → f.hold = 0 →
      f.sheddable = true → s.batchPulsed t i f rest → StaggerRuns s t
  | fails (s u t : State) (i : SlotIx) (rest : List SlotIx) :
      s.shu.batch = i :: rest →
      (∀ f, s.feeder? i = some f → f.state ≠ .tripPending ∨ f.hold ≠ 0 ∨ f.sheddable = false) →
      s.batchLeft u i rest → StaggerRuns u t → StaggerRuns s t

/-- One candidate comes before another: the lower class first, then the greater selection load, then the lower
slot (R109). -/
def shedFirst (i : SlotIx) (f : Feeder) (j : SlotIx) (q : Feeder) : Prop :=
  f.cls < q.cls ∨ (f.cls = q.cls ∧ (q.measured.getD q.nominal < f.measured.getD f.nominal ∨
    (f.measured.getD f.nominal = q.measured.getD q.nominal ∧ i < j)))

/-- A selection from the candidates for an amount: candidates in their order, none before a member left out,
the amount not reached without the last member, and short exactly when every candidate together stays below
the amount (R109). -/
def State.selection (s : State) (cand : SlotIx → Feeder → Prop) (picked : List SlotIx) (short : Bool)
    (amount : Nat) : Prop :=
  (∀ i ∈ picked, ∃ f, cand i f) ∧
  picked.Pairwise (fun i j => ∀ f q, cand i f → cand j q → shedFirst i f j q) ∧
  (∀ i f j q, i ∈ picked → cand i f → cand j q → shedFirst j q i f → j ∈ picked) ∧
  (∀ before i, picked = before ++ [i] →
    (before.map (fun j => (s.feeder? j).elim 0 (fun f => f.measured.getD f.nominal))).sum < amount) ∧
  (short = true ↔
    (picked.map (fun j => (s.feeder? j).elim 0 (fun f => f.measured.getD f.nominal))).sum < amount) ∧
  (short = true → ∀ i f, cand i f → i ∈ picked)

/-- A slot has become FREE: its generation has gone on, and RETIRE_DONE is noticed with the slot (R2, R25). -/
def State.freed (s t : State) (i : SlotIx) : Prop :=
  t.slots[i] = { gen := if s.gen i < 1023 then s.gen i + 1 else 1, record := none } ∧
  s.noticed t NoticeKind.retireDone (some i.val)

/-! ### Start selection and the permit (R80, R81, R92, R98, R99) -/

/-- Start selection may take a genset: ACTIVE, its reported fault clear, not on the crank wait list (R92). -/
def State.mayBeTaken (s : State) (i : SlotIx) (g : Genset) : Prop :=
  s.genset? i = some g ∧ s.lifecycle? i = some .active ∧ g.fault = false ∧ i ∉ s.gsq.waitList

/-- The genset start selection takes: the first by rank in UNLOADING, else in COOLDOWN, else, while a place
is free, in STOPPED (R92). -/
def State.selects (s : State) (i : SlotIx) (g : Genset) : Prop :=
  s.mayBeTaken i g ∧
  (g.state = .unloading ∨
    (g.state = .cooldown ∧ ∀ j x, s.mayBeTaken j x → x.state ≠ .unloading) ∨
    (g.state = .stopped ∧ s.placesUsed < s.param .startLimit ∧
      ∀ j x, s.mayBeTaken j x → x.state ≠ .unloading ∧ x.state ≠ .cooldown)) ∧
  ∀ j x, j ≠ i → s.mayBeTaken j x → x.state = g.state → s.ranksBefore i j

/-- A member of the crank wait list is given a place: it leaves the list, and a STOPPED genset enters CRANKING,
or RUN_UP with its ready input active (R81, R82). -/
def State.placeGiven (s u : State) (i : SlotIx) : Prop :=
  ∃ v : State,
    v = { s with gsq := { s.gsq with waitList := s.gsq.waitList.filter (fun j => j != i) } } ∧
    ((∀ g, s.genset? i = some g → g.state ≠ .stopped) → u = v) ∧
    (∀ g, s.genset? i = some g → g.state = .stopped →
      s.sequenced u i { g with state := if s.filtered g.readyLine then .runUp else .cranking } ∧
      v.onlyBody u i false ∧ v.onlyLine u g.runLine ∧
      { u with slots := v.slots, lines := v.lines, scu := v.scu } = v)

/-- Start selection orders the start of a genset: it enters the state R80 gives it (R80, R92). -/
def State.startedBySelection (s u : State) (i : SlotIx) (g : Genset) : Prop :=
  u = s.startOrder i ∧ s.started u i g

/-- GSQ serves the crank wait list and then runs start selection: while a place is free, the waiting genset
first by rank takes it; then one genset after another is started until the capacity coming reaches the
demand, which counts as 0 but in SHORT and EMERGENCY (R38), or none can be taken. `extra` is what recalled gensets, ONLINE at once, add for the rest of the
run (R81, R92). -/
inductive SelectionRuns : Nat → State → State → Prop where
  | serves (extra : Nat) (s u t : State) (i : SlotIx) :
      s.placesUsed < s.param .startLimit → i ∈ s.gsq.waitList →
      (∀ j ∈ s.gsq.waitList, j ≠ i → s.ranksBefore i j) → s.placeGiven u i →
      SelectionRuns extra u t → SelectionRuns extra s t
  | starts (extra more : Nat) (s u t : State) (i : SlotIx) (g : Genset) :
      (s.param .startLimit ≤ s.placesUsed ∨ s.gsq.waitList = []) →
      s.capacityComing + extra < s.demandActedOn → s.selects i g → s.startedBySelection u i g →
      more = (if (u.genset? i).any (fun x => x.state == .online) then g.rated else 0) →
      SelectionRuns (extra + more) u t → SelectionRuns extra s t
  | ends (extra : Nat) (s : State) :
      (s.param .startLimit ≤ s.placesUsed ∨ s.gsq.waitList = []) →
      (s.demandActedOn ≤ s.capacityComing + extra ∨ ∀ i g, ¬ s.selects i g) → SelectionRuns extra s s

/-- A genset that holds the permit leaves SYNCING for a state with its run output inactive: the permit is
released and the genset waits for it no longer (R97, R99). -/
def State.leftSyncing (s u : State) (i : SlotIx) (g g' : Genset) : Prop :=
  s.sequenced u i g' ∧ s.onlyBody u i false ∧
  u.lines = (match g.permitLine with
    | some l => (s.lines.set g.runLine { s.lines[g.runLine] with driven := false }).set l
        { s.lines[l] with driven := false }
    | none => s.lines.set g.runLine { s.lines[g.runLine] with driven := false }) ∧
  u.gsq = { s.gsq with permitHolder := none, waiters := s.gsq.waiters.filter (fun j => j != i) } ∧
  { u with slots := s.slots, lines := s.lines, scu := s.scu, gsq := s.gsq } = s

/-! ### The field link (R149, R150, R155, R157) -/

/-- A poll cycle expiry, up to the arbiter's choice: the ageing pass, the cycle count, the due marks and
POLL_OVERRUN, in the order of the directory (R12, R155; the order: assumption log 44). -/
def State.pollMarked (s s0 t : State) : Prop :=
  t.link = { s.link with cycle := (s.link.cycle + 1) % 10 } ∧
  (∀ i : SlotIx, t.slots[i] =
    { gen := s.gen i,
      record := (s.record? i).map (fun r => { r with
        fresh := r.fresh && r.lastReport.any (fun x =>
          decide ((s0.timeS - x).toNat ≤ s.param .staleTime)) }) }) ∧
  (∀ d : DirIx, t.stations[d] = (s.stations[d]).map (fun x =>
    if x.access ≠ .commandOnly ∧ (x.reach ≠ .unreachable ∨ s.link.cycle % 10 = 9)
      then { x with due := true } else x)) ∧
  (∀ k : NoticeIx, k ≠ NoticeKind.pollOverrun → t.ntu.held[k] = s.ntu.held[k]) ∧
  (∀ late : List Nat, late = (List.finRange 32).filterMap (fun d =>
      (s.stations[d]).bind (fun x => if x.due = true ∧ x.access ≠ .commandOnly ∧
        (x.reach ≠ .unreachable ∨ s.link.cycle % 10 = 9) then some x.address else none)) →
    (late = [] → t.ntu = s.ntu) ∧
    (late ≠ [] → t.ntu.held[NoticeKind.pollOverrun] = some
      { detail := late.getLast?,
        count := min 255 (((s.ntu.held[NoticeKind.pollOverrun]).elim 0 Notice.count) +
          late.length) })) ∧
  { t with link := s0.link, slots := s0.slots, stations := s0.stations, ntu := s0.ntu } = s0

/-- A transaction with a station begins: the frame is transmitted at BAUD, ten bits a byte, rounded up to 100
ns (R149, R159; the time: assumption log 10). -/
def State.transmits (s : State) (l : FieldLink) (x : Station) (e : Errand) (frame : List Byte)
    (fairness : Nat) : Prop :=
  l.transaction = some
    { address := x.address, allowance := x.allowance, gap := x.gap, errand := e, baud := s.param .baud,
      frame := frame, retry := false } ∧
  l.phase = .sending (s.now + (100000000 * frame.length + s.param .baud - 1) / s.param .baud) ∧
  l.receiving = none ∧ l.fairness = fairness ∧ l.transmit = true ∧ l.rate = s.param .baud ∧
  l.cycle = s.link.cycle

/-- The arbiter chooses on a free line: with a fairness count of 4 the due station of lowest index, else the
oldest setpoint entry whose station is not UNREACHABLE, else the oldest such UNLOAD, else the due station
of lowest index, else nothing (R157). -/
def State.arbiterChooses (s t : State) : Prop :=
  (∀ (d : DirIx) x, s.stations[d] = some x → x.due = true →
    (∀ (e : DirIx) y, e < d → s.stations[e] = some y → y.due = false) →
    (s.link.fairness = 4 ∨ ((∀ q ∈ s.link.setpoints, s.boundReachable q.slot = none) ∧
      ∀ q ∈ s.link.commands, s.boundReachable q.slot = none)) →
    t.stations = s.stations.set d (some { x with due := false }) ∧ t.slots = s.slots ∧
    s.transmits t.link x (.poll x.units) (fieldFrame x.address 0x01 []) 0 ∧
    t.link.setpoints = s.link.setpoints ∧ t.link.commands = s.link.commands) ∧
  (∀ q x u before rest, s.link.setpoints = before ++ q :: rest →
    (∀ p ∈ before, s.boundReachable p.slot = none) → s.boundReachable q.slot = some (x, u) →
    (s.link.fairness ≠ 4 ∨ ∀ (d : DirIx) y, s.stations[d] = some y → y.due = false) →
    t.stations = s.stations ∧
    (∀ p, s.pv? q.slot = some p → s.onlyBody t q.slot false ∧
      t.pv? q.slot = some { p with lastSent := some q.value }) ∧
    (s.pv? q.slot = none → t.slots = s.slots) ∧
    s.transmits t.link x (.setpoint q.slot q.gen u q.value)
      (fieldFrame x.address 0x02 (u8 u ++ u16 q.value)) (min 4 (s.link.fairness + 1)) ∧
    t.link.setpoints = (before ++ rest).filter (fun e => e.slot != q.slot) ∧
    t.link.commands = s.link.commands) ∧
  (∀ q x u before rest, s.link.commands = before ++ q :: rest →
    (∀ p ∈ s.link.setpoints, s.boundReachable p.slot = none) →
    (∀ p ∈ before, s.boundReachable p.slot = none) → s.boundReachable q.slot = some (x, u) →
    (s.link.fairness ≠ 4 ∨ ∀ (d : DirIx) y, s.stations[d] = some y → y.due = false) →
    t.stations = s.stations ∧ t.slots = s.slots ∧
    s.transmits t.link x (.unload q.slot q.gen u) (fieldFrame x.address 0x03 (u8 u))
      (min 4 (s.link.fairness + 1)) ∧
    t.link.setpoints = s.link.setpoints ∧
    t.link.commands = (before ++ rest).filter (fun e => e.slot != q.slot)) ∧
  ((∀ q ∈ s.link.setpoints, s.boundReachable q.slot = none) →
    (∀ q ∈ s.link.commands, s.boundReachable q.slot = none) →
    (∀ (d : DirIx) x, s.stations[d] = some x → x.due = false) → t = s) ∧
  { t with link := s.link, stations := s.stations, slots := s.slots } = s

/-- A transaction ends: the line is kept quiet for the station's gap (R149). -/
def FieldLink.ended (l : FieldLink) (now gap : Nat) : FieldLink :=
  { l with transaction := none, receiving := none, phase := .endGap (now + 10000 * gap) }

/-- The entry of an address is the one at an index (R144). -/
def State.stationAt (s : State) (address : Nat) (d : DirIx) (y : Station) : Prop :=
  s.stations[d] = some y ∧ y.address = address ∧
  ∀ (e : DirIx) z, e < d → s.stations[e] = some z → z.address ≠ address

/-- A miss is counted to a station, held at MISS_LIMIT. At an entry to UNREACHABLE, with no RETIRING plant
bound to it, STATION_UNREACHABLE is noticed with its address; otherwise no notice changes (R148). -/
def State.missCounted (s t : State) (d : DirIx) (y : Station) : Prop :=
  t.stations = s.stations.set d (some { y with
    misses := min (s.param .missLimit) (y.misses + 1),
    reach := if s.param .missLimit ≤ y.misses + 1 then .unreachable
      else if y.reach = .reachable then .suspect else y.reach }) ∧
  ((y.misses + 1 < s.param .missLimit ∨ y.reach = .unreachable) → t.ntu = s.ntu) ∧
  (s.param .missLimit ≤ y.misses + 1 → y.reach ≠ .unreachable →
    s.noticed t NoticeKind.stationUnreachable (some y.address))

/-- A frame is valid for a transaction (R150). -/
def Transaction.answeredBy (x : Transaction) (frame : List Byte) : Prop :=
  ∃ k body, frame = fieldFrame x.address k body ∧ body.length ≤ 64 ∧
    match x.errand with
    | .poll n => k = 0x81 ∧ body.length = 5 * n
    | .setpoint _ _ u v => (k = 0x82 ∧ body = u8 u ++ u16 v) ∨ (k = 0x83 ∧ body = u8 u)
    | .unload _ _ u => (k = 0x82 ∧ body = u8 u ++ u16 0) ∨ (k = 0x83 ∧ body = u8 u)

/-- A record after the five bytes of its entry in a REPORT: the reported values within their limits, fresh,
and ACTIVE where it was PROVISIONAL (R10, R11, R12, R151). -/
def Record.reportTaken (r : Record) (now : Time) (flags a0 a1 b0 b1 : Byte) : Record :=
  { r with
    lastReport := some now, fresh := true,
    lifecycle := if r.lifecycle = .provisional then .active else r.lifecycle,
    body := match r.body with
      | .genset g => .genset { g with
          output := some (min (2 * g.rated) (BitVec.toInt (a1 ++ a0)).toNat), fault := flags.getLsbD 0 }
      | .pv p => .pv { p with
          output := some (min p.rated (BitVec.toInt (a1 ++ a0)).toNat),
          available := some (min p.rated (if flags.getLsbD 1 then (BitVec.toInt (b1 ++ b0)).toNat
            else max (BitVec.toInt (a1 ++ a0)).toNat (BitVec.toInt (b1 ++ b0)).toNat)),
          limited := flags.getLsbD 1 }
      | .feeder f => .feeder { f with
          measured := some (min 20000 (BitVec.toInt (a1 ++ a0)).toNat) } }

/-- A genset enters LOCKOUT: its run output is dropped and its timer cancelled, it leaves the crank wait list,
a queued UNLOAD of it is removed, one that was ONLINE takes the departure actions, one that was SYNCING leaves
the permit waiters and releases the permit if it holds it; the entry is noticed and handed to RSQ (R81, R85,
R87, R97, R99, R154). -/
def State.lockedOut (s t : State) (i : SlotIx) (g : Genset) : Prop :=
  ∃ (gives : Bool) (dark : Vector Line 64),
    gives = decide (g.state = .syncing ∧ s.gsq.permitHolder = some i) ∧
    dark = s.lines.set g.runLine { s.lines[g.runLine] with driven := false } ∧
    s.sequenced t i { g with
      state := .lockout, onlineSince := if g.state = .online then none else g.onlineSince } ∧
    s.onlyBody t i false ∧
    t.lines = (match g.permitLine with
      | some l => if gives then dark.set l { dark[l] with driven := false } else dark
      | none => dark) ∧
    t.gsq = { s.gsq with
      waitList := s.gsq.waitList.filter (fun j => j != i),
      waiters := if g.state = .syncing then s.gsq.waiters.filter (fun j => j != i) else s.gsq.waiters,
      permitHolder := if gives then none else s.gsq.permitHolder } ∧
    t.blu = (if g.state = .online
      then { s.blu with reevaluation := true, minRunMark := s.blu.minRunMark.set i false } else s.blu) ∧
    t.link = (if g.state = .unloading
      then { s.link with commands := s.link.commands.filter (fun e => e.slot != i) } else s.link) ∧
    s.noticed t NoticeKind.gensetLockout (some i.val) ∧
    t.ntu = (s.raise NoticeKind.gensetLockout (some i.val)).ntu ∧
    t.mail = s.mail ++ [.gensetLockout i] ∧
    { t with slots := s.slots, lines := s.lines, scu := s.scu, gsq := s.gsq, blu := s.blu,
             link := s.link, ntu := s.ntu, mail := s.mail } = s

/-- A genset in UNLOADING enters COOLDOWN: its run output is dropped, its timer is set to COOL_TIME, and a
queued UNLOAD of it is removed (R89, R154). -/
def State.cooling (s t : State) (i : SlotIx) (g : Genset) : Prop :=
  s.sequenced t i { g with state := .cooldown } ∧ s.onlyBody t i false ∧
  t.lines = s.lines.set g.runLine { s.lines[g.runLine] with driven := false } ∧
  t.gsq = { s.gsq with waitList := s.gsq.waitList.filter (fun j => j != i) } ∧
  t.link = { s.link with commands := s.link.commands.filter (fun e => e.slot != i) } ∧
  { t with slots := s.slots, lines := s.lines, scu := s.scu, gsq := s.gsq, link := s.link } = s

/-- A genset in COOLDOWN enters STOPPED: its run output is inactive, its timer is cancelled and its attempts used
are 0 (R90). -/
def State.cooled (s u : State) (i : SlotIx) (g : Genset) : Prop :=
  s.sequenced u i { g with state := .stopped, attempts := 0 } ∧ s.onlyBody u i false ∧
  u.lines = s.lines.set g.runLine { s.lines[g.runLine] with driven := false } ∧
  u.gsq = { s.gsq with waitList := s.gsq.waitList.filter (fun j => j != i) } ∧
  { u with slots := s.slots, lines := s.lines, scu := s.scu, gsq := s.gsq } = s

/-- An ONLINE genset `g` leaves ONLINE for UNLOADING, in the record `r`: its timer is set to UNLOAD_TIME, online
since is absent, its minimum-run mark clear and a re-evaluation asked for; its UNLOAD joins the command queue
unless one is queued, and on a free line the arbiter then chooses (R74, R85, R88, R154, R157). -/
def State.unloads (s t : State) (i : SlotIx) (r : Record) (g : Genset) : Prop :=
  ∃ u : State, s.sequenced u i { g with state := .unloading, onlineSince := none } ∧
    u.slots = s.slots.set i { gen := s.gen i, record := some { r with
      body := .genset { g with state := .unloading, onlineSince := none } } } ∧
    s.onlyLine u g.runLine ∧
    u.blu = { s.blu with
      reevaluation := true, minRunMark := s.blu.minRunMark.set i false } ∧
    ((∀ e ∈ s.link.commands, e.slot ≠ i) → u.link = { s.link with
      commands := s.link.commands ++ [{ slot := i, gen := s.gen i }] } ∧
      (s.link.phase = .free → u.arbiterChooses t)) ∧
    ((∃ e ∈ s.link.commands, e.slot = i) → u.link = s.link ∧ t = u) ∧
    (s.link.phase ≠ .free → t = u) ∧
    { u with slots := s.slots, lines := s.lines, scu := s.scu, blu := s.blu, link := s.link } = s

/-- What GSQ does with a report entry taken for a genset, which `g` shows with the entry's values: FAULT locks
the genset out of every state but STOPPED and LOCKOUT, and takes it off the crank wait list; without FAULT an
output at or below UNLOAD_LEVEL ends an unload; start selection then runs (R81, R87, R89, R92). A RETIRING
genset is freed as it enters LOCKOUT (R22), and a permit it held is granted anew (R98). -/
def State.entryActed (s t : State) (i : SlotIx) (g : Genset) : Prop :=
  (g.fault = true → g.state ∈ [.stopped, .lockout] →
    t = { s with gsq := { s.gsq with waitList := s.gsq.waitList.filter (fun j => j != i) } }) ∧
  (g.fault = true → g.state ∉ [.stopped, .lockout] → ∃ u v w : State, s.lockedOut u i g ∧
    (g.state = .syncing ∧ s.gsq.permitHolder = some i → u.grantTried v) ∧
    (g.state ≠ .syncing ∨ s.gsq.permitHolder ≠ some i → v = u) ∧
    (s.lifecycle? i = some .retiring → w = v.freeSlot i ∧ v.freed w i) ∧
    (s.lifecycle? i ≠ some .retiring → w = v) ∧ SelectionRuns 0 w t) ∧
  (∀ kw, g.fault = false → g.output = some kw → g.state = .unloading →
    kw * 100 ≤ s.param .unloadLevel * g.rated → ∃ u, s.cooling u i g ∧ SelectionRuns 0 u t) ∧
  (∀ kw, g.fault = false → g.output = some kw →
    (g.state ≠ .unloading ∨ s.param .unloadLevel * g.rated < kw * 100) → t = s)

/-- The entries of a REPORT of the station at an address are taken in unit order, from the unit given on: an
entry for a pair that no record binds is discarded, any other is taken into its record, and GSQ acts on one
taken for a genset (R10, R151). -/
inductive EntriesTaken (address : Nat) : Nat → List Byte → State → State → Prop where
  | done (k : Nat) (s : State) : EntriesTaken address k [] s s
  | discards (k : Nat) (flags a0 a1 b0 b1 : Byte) (rest : List Byte) (s t : State) :
      (∀ i r, s.record? i = some r → r.binding ≠ some { address := address, unit := k }) →
      EntriesTaken address (k + 1) rest s t →
      EntriesTaken address k (flags :: a0 :: a1 :: b0 :: b1 :: rest) s t
  | takes (k : Nat) (flags a0 a1 b0 b1 : Byte) (rest : List Byte) (s u v t : State) (i : SlotIx)
      (r q : Record) :
      s.record? i = some r → r.binding = some { address := address, unit := k } →
      (∀ j x, j < i → s.record? j = some x → x.binding ≠ some { address := address, unit := k }) →
      q = r.reportTaken s.timeS flags a0 a1 b0 b1 →
      u = { s with slots := s.slots.set i { gen := s.gen i, record := some q } } →
      (∀ g, q.body = .genset g → u.entryActed v i g) → ((∀ g, q.body ≠ .genset g) → v = u) →
      EntriesTaken address (k + 1) rest v t →
      EntriesTaken address k (flags :: a0 :: a1 :: b0 :: b1 :: rest) s t

/-! ### Edges and input changes (R44, R165, R167) -/

/-- A rising crossing of the zero-cross input reaches BMN: the filter hold in progress has run, or the
pin rises with a filter time of 0; `stamp` is the value of F at the rise, and `s0` is the state in which
BMN takes the edge (R167). -/
def State.crosses (s : State) (c : Instr) (stamp : Time) (s0 : State) : Prop :=
  s.port.resetHeld = false ∧ ∃ l, s.zeroCrossLine = some l ∧
    ((∃ h, c = .zeroCrossFilterExpiry ∧ s.lines[l].hold = some h ∧ stamp = h.stamp ∧
        s0 = { s.runTo h.till with
          lines := s.lines.set l { s.lines[l] with hold := none, filtered := true } }) ∨
      (∃ after high, c = .zeroCrossPinChange after high ∧ s.lines[l].hold = none ∧
        s.lines[l].filter = 0 ∧ s.lines[l].level = false ∧
        ({ s.lines[l] with pin := high } : Line).level = true ∧
        stamp = (s.runTo (s.now + after)).timeF ∧
        s0 = { s.runTo (s.now + after) with
          lines := s.lines.set l { s.lines[l] with pin := high, hold := none, filtered := true } }))

/-- BMN discards an edge as a glitch: it follows the newest stamp by less than the filter time of the
zero-cross line, or the stamp four places before it by less than 571 429 counts (R44). -/
def State.glitch (s : State) (stamp : Time) : Prop :=
  (∃ n l, s.bus.history.getLast? = some n ∧ s.zeroCrossLine = some l ∧
    (stamp - n).toNat < 10 * s.lines[l].filter) ∨
  (∃ o, 4 ≤ s.bus.history.length ∧ (s.bus.history.drop (s.bus.history.length - 4)).head? = some o ∧
    (stamp - o).toNat < 571429)

/-- The messages by which LNU hands on an input change, to the blocks that read the line, with the value of
S at the delivery (R165, R166). -/
def State.delivered (s : State) (l : LineIx) (level : Bool) (stamp : Time) (more : List Message) : Prop :=
  more = match s.lines[l].function with
    | .statusIn =>
      if (∃ i f, s.feeder? i = some f ∧ f.statusLine = some l) then [.statusShu l level stamp] else []
    | .readyIn =>
      if (∃ i g, s.genset? i = some g ∧ g.readyLine = l) then [.readyGsq l level stamp] else []
    | .genBreakerIn => [.breakerGsq l level stamp, .breakerBmn l level stamp]
    | _ => []

/-- The commands that act while the part is held in reset: the resets themselves, the transaction that
draws NOT_READY, and the changes of pins (R173, R176, R185). -/
def actsInReset : Instr → Bool
  | .powerOnReset | .resetInputAsserted | .resetInputReleased => true
  | .spiTransaction _ | .inputPinChange _ _ _ | .zeroCrossPinChange _ _ => true
  | _ => false

/-- The handle a request names, with the kind of record it is meant for, if one kind is (R3). -/
def namedHandle : Instr → Option (Handle × Option Kind)
  | .amend h _ | .query h | .retire h => some (h, none)
  | .start h | .stop h | .clearLockout h => some (h, some .genset)
  | .trip h | .reclose h | .clearFault h => some (h, some .feeder)
  | _ => none

/-! ### What a REGISTER or an AMEND gives, and what refuses it (R4, R6, R7, R8, R15, R16) -/

/-- The roles of a record with their lines, numbered as LINE_QUERY codes them: run, ready, breaker, permit,
trip, close, status from 1 (section 1.4, R186). -/
def Record.roles (r : Record) : List (Nat × LineIx) :=
  match r.body with
  | .genset g =>
    [(1, g.runLine), (2, g.readyLine), (3, g.breakerLine)] ++ g.permitLine.toList.map (fun l => (4, l))
  | .pv _ => []
  | .feeder f =>
    [(5, f.tripLine)] ++ f.closeLine.toList.map (fun l => (6, l)) ++
      f.statusLine.toList.map (fun l => (7, l))

/-- The line function a role requires (section 1.4). -/
def roleFunction : Nat → LineFunction
  | 1 => .runOut | 2 => .readyIn | 3 => .genBreakerIn | 4 => .permitOut
  | 5 => .tripOut | 6 => .closeOut | _ => .statusIn

/-- The field code that names the line of a role (R186). -/
def roleCode : Nat → Nat
  | 1 => 7 | 2 => 8 | 3 => 9 | 4 => 10
  | 5 => 6 | 6 => 7 | _ => 8

/-- The value a list of field entries gives a field, or the value it had. -/
def given {α : Type} (fields : List (Nat × Nat)) (code : Nat) (old : α) (f : Nat → α) : α :=
  match fields.find? (fun q => q.1 == code) with
  | some q => f q.2
  | none => old

/-- The value of an optional field, which FFFFh removes (R186). -/
def optional {α : Type} (f : Nat → α) (v : Nat) : Option α := if v = 0xFFFF then none else some (f v)

/-- A record with the named fields at their new values and every other field as it was (R15, R186). -/
def Record.given (r : Record) (fields : List (Nat × Nat)) : Record :=
  { r with
    tag := Machine.given fields 1 r.tag id,
    binding := Machine.given fields 2 r.binding
      (optional (fun v => { address := v % 256, unit := v / 256 })),
    body := match r.body with
      | .genset g => .genset { g with
          rated := Machine.given fields 3 g.rated id, minLoad := Machine.given fields 4 g.minLoad id,
          rank := Machine.given fields 5 g.rank id, mustRun := Machine.given fields 6 g.mustRun (· == 1),
          runLine := Machine.given fields 7 g.runLine (Fin.ofNat 64),
          readyLine := Machine.given fields 8 g.readyLine (Fin.ofNat 64),
          breakerLine := Machine.given fields 9 g.breakerLine (Fin.ofNat 64),
          permitLine := Machine.given fields 10 g.permitLine (optional (Fin.ofNat 64)) }
      | .pv p => .pv { p with
          rated := Machine.given fields 3 p.rated id, cls := Machine.given fields 4 p.cls id,
          ramp := Machine.given fields 5 p.ramp (optional id) }
      | .feeder f => .feeder { f with
          cls := Machine.given fields 3 f.cls id,
          sheddable := Machine.given fields 4 f.sheddable (· == 1),
          nominal := Machine.given fields 5 f.nominal id,
          tripLine := Machine.given fields 6 f.tripLine (Fin.ofNat 64),
          closeLine := Machine.given fields 7 f.closeLine (optional (Fin.ofNat 64)),
          statusLine := Machine.given fields 8 f.statusLine (optional (Fin.ofNat 64)) } }

/-- A field entry of a kind lies in its range (section 1.5); FFFFh removes an optional field. -/
def fieldFits : Kind → Nat × Nat → Prop
  | _, (1, v) => 1 ≤ v ∧ v ≤ 65535
  | k, (2, v) => (k = .feeder ∧ v = 0xFFFF) ∨ (1 ≤ v % 256 ∧ v % 256 ≤ 247 ∧ v / 256 ≤ 3)
  | .genset, (3, v) => 10 ≤ v ∧ v ≤ 5000
  | .genset, (4, v) => v ≤ 5000
  | .genset, (5, v) => 1 ≤ v ∧ v ≤ 8
  | .genset, (6, v) => v ≤ 1
  | .genset, (10, v) => v = 0xFFFF ∨ v ≤ 63
  | .genset, (_, v) => v ≤ 63
  | .pv, (3, v) => 1 ≤ v ∧ v ≤ 5000
  | .pv, (4, v) => v ≤ 7
  | .pv, (_, v) => v = 0xFFFF ∨ (1 ≤ v ∧ v ≤ 1000)
  | .feeder, (3, v) => v ≤ 15
  | .feeder, (4, v) => v ≤ 1
  | .feeder, (5, v) => v ≤ 10000
  | .feeder, (6, v) => v ≤ 63
  | .feeder, (_, v) => v = 0xFFFF ∨ v ≤ 63

/-- Every value lies in its range, and the minimum load of a genset does not exceed its rated (R8, R15). -/
def rangesFit (k : Kind) (fields : List (Nat × Nat)) (r : Record) : Prop :=
  (∀ q ∈ fields, fieldFits k q) ∧ ∀ g, r.body = .genset g → g.minLoad ≤ g.rated

/-- A named binding fails the checks of R6, in their order. `self` is the slot of an amended record. -/
def State.bindingFails (s : State) (self : Option SlotIx) (k : Kind) (fields : List (Nat × Nat))
    (e : Status) : Prop :=
  ∃ v, (2, v) ∈ fields ∧ v ≠ 0xFFFF ∧
    (((∀ (d : DirIx) (x : Station), s.stations[d] = some x → x.address ≠ v % 256) ∧ e = .outOfRange) ∨
      ∃ (d : DirIx) (x : Station), s.stations[d] = some x ∧ x.address = v % 256 ∧
        (∀ (c : DirIx) (y : Station), c < d → s.stations[c] = some y → y.address ≠ v % 256) ∧
        ((x.units ≤ v / 256 ∧ e = .outOfRange) ∨
          (v / 256 < x.units ∧ e = .badKind ∧
            ¬ ((k = .genset ∧ x.cls = .gensetCtrl ∧ x.access = .reportCommand) ∨
              (k = .pv ∧ x.cls = .pvCtrl ∧ x.access = .reportCommand) ∨
              (k = .feeder ∧ x.cls = .feederMeter ∧ x.access ≠ .commandOnly))) ∨
          (v / 256 < x.units ∧ e = .stationInUse ∧
            ((k = .genset ∧ x.cls = .gensetCtrl ∧ x.access = .reportCommand) ∨
              (k = .pv ∧ x.cls = .pvCtrl ∧ x.access = .reportCommand) ∨
              (k = .feeder ∧ x.cls = .feederMeter ∧ x.access ≠ .commandOnly)) ∧
            ∃ i q, some i ≠ self ∧ s.record? i = some q ∧
              q.binding = some { address := v % 256, unit := v / 256 })))

/-- The line named for a role fails the checks of R7: its function is another, or it serves another role
already. `r` is the record as it would stand. A line given to the role it already serves passes (assumption
log 38). -/
def State.lineFails (s : State) (self : Option SlotIx) (fields : List (Nat × Nat)) (r : Record) (n : Nat)
    (l : LineIx) (e : Status) : Prop :=
  (n, l) ∈ r.roles ∧ (∃ v, (roleCode n, v) ∈ fields) ∧
    ((s.lines[l].function ≠ roleFunction n ∧ e = .badKind) ∨
      (s.lines[l].function = roleFunction n ∧ e = .lineInUse ∧
        ((∃ i q, some i ≠ self ∧ s.record? i = some q ∧ l ∈ q.lines) ∨
          ∃ m, m ≠ n ∧ (m, l) ∈ r.roles)))

/-- The refusal that ends the checks of REGISTER and AMEND: the binding, then the lines in the order of their
field codes (assumption log 11), then the tag (R8, R15). -/
def State.namingFails (s : State) (self : Option SlotIx) (k : Kind) (fields : List (Nat × Nat))
    (r : Record) (e : Status) : Prop :=
  s.bindingFails self k fields e ∨
  ((∀ e', ¬ s.bindingFails self k fields e') ∧
    ((∃ n l, s.lineFails self fields r n l e ∧
        ∀ m l' e', m < n → ¬ s.lineFails self fields r m l' e') ∨
      ((∀ n l e', ¬ s.lineFails self fields r n l e') ∧ e = .duplicateTag ∧
        ∃ v i q, (1, v) ∈ fields ∧ some i ≠ self ∧ s.record? i = some q ∧ q.tag = v)))

/-- A field of a record is locked in its present state (R16). -/
def Record.fieldLocked (r : Record) (code : Nat) : Prop :=
  match r.body with
  | .genset g => code ∈ [2, 3, 7, 8, 9, 10] ∧ g.state ≠ .stopped ∧ g.state ≠ .lockout
  | .pv _ => code ∈ [2, 3] ∧ r.lifecycle ≠ .provisional
  | .feeder f => code ∈ [2, 6, 7, 8] ∧ f.state ≠ .tripped

/-! ### What every step keeps -/

/-- NOTIFY is driven low exactly while a pending kind has a level at or above the threshold (R180). -/
def State.notifyAgrees (s : State) : Prop := s.ntu.notifyLow = s.ntu.drives (s.param .notifyThreshold)

/-- The edge history holds at most five stamps, and the frequency is 0 or lies between 40 000 and
70 000 mHz (R44, R45). -/
def State.busInRange (s : State) : Prop :=
  s.bus.history.length ≤ 5 ∧
  (s.bus.frequency = 0 ∨ (40000 ≤ s.bus.frequency ∧ s.bus.frequency ≤ 70000))

/-- The gensets in CRANKING or RESTING are at most START_LIMIT (R81). -/
def State.placesInLimit (s : State) : Prop := s.placesUsed ≤ s.param .startLimit

/-- A feeder hold count lies between 0 and 15 (R116), a PV setpoint between 0 and the plant's rated (R73), and a
genset start rank at 8 or below, a PV curtailment class at 7 or below and a feeder priority class at 15 or
below (section 1.5). -/
def Record.inRange (r : Record) : Bool :=
  match r.body with
  | .genset g => decide (g.rank ≤ 8)
  | .pv p => decide (p.cls ≤ 7 ∧ p.setpoint ≤ p.rated)
  | .feeder f => decide (f.hold ≤ 15 ∧ f.cls ≤ 15)

/-- The records of an image are in range. -/
def Image.recordsInRange (m : Image) : Prop := ∀ i : SlotIx, m.slots[i].record.all Record.inRange = true

/-- Every record is in range, in the table and in what a reset may load. -/
def State.recordsInRange (s : State) : Prop :=
  (∀ i : SlotIx, (s.record? i).all Record.inRange = true) ∧
  (∀ a, s.store.current = some a → a.contents.recordsInRange) ∧
  (∀ w, s.store.saving = some w → w.snapshot.recordsInRange)

/-- A generation is 1 to 1023 (section 1.2). -/
def genInRange (g : Nat) : Prop := 1 ≤ g ∧ g ≤ 1023

/-- Every generation of an image is 1 to 1023. -/
def Image.gensInRange (m : Image) : Prop := ∀ i : SlotIx, genInRange m.slots[i].gen

/-- Every slot's generation is 1 to 1023, in the table and in what a reset may load (section 1.2, R2). -/
def State.gensInRange (s : State) : Prop :=
  (∀ i, genInRange (s.gen i)) ∧ (∀ a, s.store.current = some a → a.contents.gensInRange) ∧
  (∀ w, s.store.saving = some w → w.snapshot.gensInRange)

/-- Of the records given by `rec`, no two hold one tag, bind one pair or serve one line, no record gives two
roles one line, and every role has a line of the function it requires, the functions given by `fn` (R4, R6,
R7). -/
def namesSound (rec : SlotIx → Option Record) (fn : LineIx → LineFunction) : Prop :=
  (∀ i j r q, i ≠ j → rec i = some r → rec j = some q →
    r.tag ≠ q.tag ∧ (r.binding ≠ none → r.binding ≠ q.binding) ∧ ∀ l ∈ r.lines, l ∉ q.lines) ∧
  ∀ i r, rec i = some r → r.lines.Nodup ∧ ∀ n l, (n, l) ∈ r.roles → fn l = roleFunction n

/-- The names in an image are sound. -/
def Image.namesSound (m : Image) : Prop :=
  Machine.namesSound (fun i => m.slots[i].record) (fun l => m.lines[l].function)

/-- The names are sound, in the table and in what a reset may load (R4, R6, R7, R26). -/
def State.namesSound (s : State) : Prop :=
  Machine.namesSound s.record? (fun l => s.lines[l].function) ∧
  (∀ a, s.store.current = some a → a.contents.namesSound) ∧
  (∀ w, s.store.saving = some w → w.snapshot.namesSound)

/-- A permit output is active only for the holder of the start permit, on its permit line: at most one is
active at a time (R98). -/
def State.permitAlone (s : State) : Prop :=
  ∀ l : LineIx, s.lines[l].function = .permitOut → s.lines[l].driven = true →
    ∃ i g, s.gsq.permitHolder = some i ∧ s.genset? i = some g ∧ g.permitLine = some l

/-- The deadline list holds at most one entry of a key (R161). -/
def State.deadlinesOnce (s : State) : Prop := (s.scu.entries.map Deadline.key).Nodup

end Sys2Proof.Machine
end

