-- ==== Sys2Proof/Certificates/Slice0/Obligations.lean ====
section
/-! DEFINITION. The statements about the IG40, for the provers. Each docstring says what the statement
says; where a clause rests on a choice of the model it names the assumption log. -/

open Sys2Proof Sys2Proof.Machine

/-! ### Steps and the queue -/

/-- A step runs the command at the front of the queue on the state with the queue's rest. -/
def Obligations.StepRunsFrontCommand : Prop :=
  ∀ (c : Instr) (rest : List Instr) (s : State),
    s.pending = c :: rest → step s = exec c { s with pending := rest }

/-- With no command waiting the part idles: held in reset it stays as it is; otherwise it takes the row that
is due of itself, or, with none due, time alone passes, by at most one millisecond of time base S. The
order in which it takes what is due is the model's choice (assumption log 1). -/
def Obligations.IdleStepTakesWhatIsDue : Prop :=
  ∀ s : State, s.pending = [] →
    (s.port.resetHeld = true → step s = .next s) ∧
    (s.port.resetHeld = false → ∀ c, s.dueRow = some c → step s = exec c s) ∧
    (s.port.resetHeld = false → s.dueRow = none →
      ∃ t, step s = .next t ∧ s.now < t.now ∧ t.now ≤ (s.now / 10000 + 1) * 10000 ∧
        { t with now := s.now, scu := s.scu } = s)

/-- Every command answers a next state, and leaves the queue of commands as it is. -/
def Obligations.EveryCommandCompletesAndKeepsTheQueue : Prop :=
  ∀ (c : Instr) (s : State), ∃ t, exec c s = .next t ∧ t.pending = s.pending

/-- While the RESET input is held asserted, a command that is no reset, no SPI transaction and no pin change
has no effect: the part does nothing in reset (section 10.5), and which commands still act then is the
model's choice (assumption log 8). A step that takes an event another block hands over, or an expiry, has
no effect when no such event waits and the deadline is not set; that a step named out of turn has no
effect is the model's choice (assumption logs 2 and 3). -/
def Obligations.NothingRunsWithoutACause : Prop :=
  (∀ (c : Instr) (s : State), s.port.resetHeld = true → actsInReset c = false → exec c s = .next s) ∧
  (∀ s : State,
     (∀ m : Message, (∀ m' ∈ s.mail, m'.row ≠ m.row) → exec m.row s = .next s) ∧
     (∀ k : DeadlineKey, s.isSet k = false → exec (s.expiryRow k) s = .next s))

/-! ### What every step keeps -/

/-- Every step keeps NOTIFY in agreement with the pending notices, their levels and the threshold. -/
def Obligations.StepKeepsNotifyInAgreement : Prop :=
  ∀ s t : State, s.notifyAgrees → step s = .next t → t.notifyAgrees

/-- Every step keeps the edge history at five stamps or fewer, and the frequency at 0 or between 40 000 and
70 000 mHz. -/
def Obligations.StepKeepsFrequencyInRange : Prop :=
  ∀ s t : State, s.busInRange → step s = .next t → t.busInRange

/-- Every step keeps every feeder hold count at 15 or below, every start rank at 8, every PV curtailment
class at 7 and every feeder class at 15 or below, every PV setpoint at the plant's rated power or below
(R73), and every generation at 1 to 1023, in the table and in what a reset may load. Every step keeps the
names sound: no two records hold one tag, bind one station and unit or serve one line, no record gives
two roles one line, and every role has a line of the function it requires (R4, R6, R7). -/
def Obligations.StepKeepsTheTableInRange : Prop :=
  (∀ s t : State, s.recordsInRange → step s = .next t → t.recordsInRange) ∧
  (∀ s t : State, s.gensInRange → step s = .next t → t.gensInRange) ∧
  (∀ s t : State, s.namesSound → step s = .next t → t.namesSound)

/-- Every step keeps the number of gensets in CRANKING and RESTING within START_LIMIT (R81). With the names
sound, every step keeps a permit output active only for the holder of the dead-bus permit, so that at
most one is active (R98). Every step keeps the deadline list at one entry a key or none (R161). -/
def Obligations.StepKeepsStartLimit : Prop :=
  (∀ s t : State, s.placesInLimit → step s = .next t → t.placesInLimit) ∧
  (∀ s t : State, s.namesSound → s.permitAlone → step s = .next t → t.permitAlone) ∧
  (∀ s t : State, s.deadlinesOnce → step s = .next t → t.deadlinesOnce)

/-- The state after reset meets every property that the steps keep. -/
def Obligations.ResetMeetsTheInvariants : Prop :=
  State.reset.notifyAgrees ∧ State.reset.busInRange ∧ State.reset.recordsInRange ∧
  State.reset.placesInLimit ∧ State.reset.gensInRange ∧ State.reset.namesSound ∧
  State.reset.permitAlone ∧ State.reset.deadlinesOnce

/-! ### Resets -/

/-- The power-on reset, the release of the RESET input and RESTART each put every block into its reset state,
with the configuration of the image loaded: the directory with no reachability known, the lines as loaded
with their filtered levels at their pins, the records with their runtime fields at the values of R26, and
the states of gensets and feeders derived from the lines; a run output keeps its level through a warm
reset only where R173 holds it and its genset is derived ONLINE. Only the evaluation, poll cycle and dark
timer deadlines and the COOL_TIME timers of gensets derived COOLDOWN are set, and the notices of the
reset alone are pending. A power-on reset leaves the level of the RESET input as it is (the model's
choice: assumption log 8). With no good image every slot is FREE at generation 1, the directory empty,
every line UNUSED, parameters and levels at their defaults and the plan empty, and SETTINGS_LOST and
RESTARTED are pending. -/
def Obligations.EveryResetPutsBlocksInResetState : Prop :=
  (∀ (c : Instr) (s : State) (m : Image) (warm : Bool),
     ((c = .powerOnReset ∧ warm = false) ∨
       (c = .resetInputReleased ∧ s.port.resetHeld = true ∧ warm = true) ∨
       (c = .restart ∧ s.serves .restart ∧ warm = true)) →
     m = s.store.load.getD Image.blank →
     ∃ t, exec c s = .next t ∧ t.now = 0 ∧ t.mail = [] ∧ t.pending = s.pending ∧
       t.port = { response := none, request := none, shifted := s.port.shifted,
                  resetHeld := s.port.resetHeld && c == .powerOnReset } ∧
       t.bus = { history := [], frequency := 0, raised := Vector.replicate 4 false, freeze := false,
                 noEdge := false, live := false, dark := false } ∧
       t.blu = { grid := .survey, results := none, effStart := 0, effShed := 0, stopCandidate := none,
                 reevaluation := false, minRunMark := Vector.replicate 64 false } ∧
       t.gsq = { waitList := [], permitHolder := none, waiters := [], demand := 0, live := false } ∧
       t.shu = { armed := Vector.replicate 4 [], batch := [], lastPulse := none,
                 recloseCandidate := none, stageShort := Vector.replicate 4 false,
                 reserveShort := false } ∧
       t.rsq = { steps := m.steps, length := m.planLength, autoRun := m.autoRun, state := .idle,
                 cursor := 0, status := Vector.replicate 32 .pending,
                 written := Vector.replicate 32 false, stageView := Vector.replicate 4 false,
                 live := false, orderGiven := false, closeMade := false } ∧
       t.link = { setpoints := [], commands := [], transaction := none, phase := .free,
                  receiving := none, fairness := 0, cycle := 0, transmit := false,
                  rate := t.param .baud } ∧
       t.params = m.params ∧ t.ntu.levels = m.levels ∧ t.notifyAgrees ∧
       (∀ k : NoticeIx, t.ntu.held[k] =
         if k = NoticeKind.restarted ∨ (k = NoticeKind.settingsLost ∧ s.store.load = none) then
           some { detail := none, count := 1 } else none) ∧
       (∀ d : DirIx, t.stations[d] =
         (m.stations[d]).map (fun x => { x with misses := 0, reach := .unknown, due := false })) ∧
       (∀ l : LineIx,
         t.lines[l] =
           { function := m.lines[l].function, polarity := m.lines[l].polarity,
             filter := m.lines[l].filter, pin := s.lines[l].pin,
             filtered := m.lines[l].function.isInput &&
               (s.lines[l].pin == (m.lines[l].polarity == .activeHigh)),
             hold := none, lastChange := none, driven := t.lines[l].driven, pulse := none,
             window := none } ∧
         (t.lines[l].driven = true ↔ s.runHeld warm m l ∧
           ∀ i g, t.genset? i = some g → g.runLine = l → g.state = .online)) ∧
       (∀ i : SlotIx, m.slots[i].record = none → t.slots[i] = m.slots[i]) ∧
       (∀ (i : SlotIx) (r : Record), m.slots[i].record = some r → ∃ b : Body,
         t.slots[i] =
           { gen := m.slots[i].gen,
             record := some
               { lifecycle := if r.body.kind = .feeder ∧ r.binding = none then .active else .provisional,
                 tag := r.tag, binding := r.binding, lastReport := none, fresh := false,
                 body := b } } ∧
         (∀ g, r.body = .genset g → ∃ st,
           b = .genset { g with
             state := st, attempts := 0, onlineSince := if st = .online then some 0 else none,
             trips := 0, output := none, fault := false } ∧
           ((∀ (j : SlotIx) (q : Record) (h : Genset), j ≠ i → m.slots[j].record = some q →
               q.body = .genset h → h.runLine ≠ g.runLine) →
             (st = .online ↔ t.filtered g.breakerLine = true ∧ t.filtered g.readyLine = true ∧
               s.runHeld warm m g.runLine) ∧
             (st = .cooldown ↔ t.filtered g.readyLine = true ∧ ¬ s.runHeld warm m g.runLine) ∧
             (st ≠ .online → st ≠ .cooldown → st = .stopped))) ∧
         (∀ p, r.body = .pv p → b = .pv
           { rated := p.rated, cls := p.cls, ramp := p.ramp, setpoint := p.rated, lastSent := none,
             lastAck := none, unconfirmed := false, planCap := none, output := none, available := none,
             limited := false }) ∧
         (∀ f, r.body = .feeder f → b = .feeder
           { f with
             state := if f.statusLine.any (fun l => !t.filtered l) then .tripped else .closed,
             cause := if f.statusLine.any (fun l => !t.filtered l) then some .unknown else none,
             hold := 0, measured := none, lastChange := 0, pendingCause := none })) ∧
       (∀ k, t.isSet k = true ↔ k ∈ [DeadlineKey.evaluation, .pollCycle, .darkTimer] ∨
         ∃ i g, k = .gensetTimer i ∧ t.genset? i = some g ∧ g.state = .cooldown) ∧
       (∀ d ∈ t.scu.entries,
         (d.key = .evaluation → d.due = BitVec.ofNat 32 (t.param .evalPeriod) ∧
           d.period = some (t.param .evalPeriod)) ∧
         (d.key = .pollCycle → d.due = BitVec.ofNat 32 (t.param .pollCycle) ∧
           d.period = some (t.param .pollCycle)) ∧
         (d.key = .darkTimer → d.due = BitVec.ofNat 32 (t.param .darkTime) ∧ d.period = none) ∧
         (∀ i, d.key = .gensetTimer i → d.due = BitVec.ofNat 32 (t.param .coolTime * 1000) ∧
           d.period = none)) ∧
       t.store = { s.store with saving := none }) ∧
  (∀ s : State, s.store.load = none →
     ∃ t, exec .powerOnReset s = .next t ∧
       (∀ i : SlotIx, t.slots[i] = { gen := 1, record := none }) ∧
       (∀ d : DirIx, t.stations[d] = none) ∧
       (∀ l : LineIx, t.lines[l].function = .unused ∧ t.lines[l].polarity = .activeHigh ∧
         t.lines[l].filter = 10 ∧ t.lines[l].driven = false) ∧
       (∀ p : Param, t.param p = p.default) ∧ t.ntu.levels = defaultLevels ∧
       (∀ p : PosIx, t.rsq.steps[p] = none) ∧ t.rsq.length = 0 ∧ t.rsq.autoRun = false ∧
       (∀ k : NoticeIx, t.ntu.held[k] =
         if k = NoticeKind.settingsLost ∨ k = NoticeKind.restarted then
           some { detail := none, count := 1 } else none) ∧
       t.ntu.notifyLow = true)

/-- The RESET input asserted holds the part in reset and loses a save in flight, the image of the last
completed save staying the one a reset loads; that everything else keeps its value until the release is
the model's choice (assumption log 8). Through its release only a RUN_OUT line that was RUN_OUT with the
same polarity and serves a record of the image can keep the level it drove; every other output is
inactive. -/
def Obligations.ResetInputAndRunOutputs : Prop :=
  (∀ s : State, ∃ t, exec .resetInputAsserted s = .next t ∧ t.port.resetHeld = true ∧
     t.store.saving = none ∧ t.store.load = s.store.load ∧
     { t with port := { t.port with resetHeld := s.port.resetHeld }, store := s.store } = s) ∧
  (∀ (s : State) (m : Image) (l : LineIx), s.port.resetHeld = true → s.store.load = some m →
     ∃ t, exec .resetInputReleased s = .next t ∧
       (t.lines[l].driven = true →
         s.lines[l].driven = true ∧ s.lines[l].function = .runOut ∧ m.lines[l].function = .runOut ∧
         s.lines[l].polarity = m.lines[l].polarity ∧ m.serves l = true) ∧
       t.lines[l].pulse = none ∧ t.lines[l].window = none ∧ t.lines[l].hold = none ∧
       t.lines[l].pin = s.lines[l].pin ∧ t.lines[l].lastChange = none)

/-! ### The SPI transaction and the request frames -/

/-- A transaction outside a reset with no request in progress shifts out the pending response, or the NOP
response, and takes in the incoming frame. In a reset, or while a request is in progress, it shifts out
NOT_READY, and its incoming frame has no effect. -/
def Obligations.TransactionSwapsResponseForRequest : Prop :=
  (∀ (clocked : List Byte) (s : State), s.port.resetHeld = false → s.port.request = none →
     ∃ t, exec (.spiTransaction clocked) s = .next t ∧
       t.port.shifted =
         shiftedOut (s.port.response.getD (responseFrame .ok 0x01 [])) clocked.length ∧
       t.port.resetHeld = false ∧
       ((clocked = [] ∨ clocked.head? = some 0) → t.port.response = none ∧ t.port.request = none) ∧
       (∀ c, requestCode c ≠ 0 → c.wellFormed = true → clocked = writeFrame c →
         t.port.response = none ∧ t.port.request = some c) ∧
       (∀ status k, readFrame clocked = .refused status (some k) →
         t.port.response = some (responseFrame status k []) ∧ t.port.request = none) ∧
       { t with port := s.port, freeCount := s.freeCount } = s) ∧
  (∀ (clocked : List Byte) (s : State),
     (s.port.resetHeld = true → exec (.spiTransaction clocked) s =
       .next { s with port := { s.port with
         shifted := shiftedOut (responseFrame .notReady 0x01 []) clocked.length } }) ∧
     (∀ c, s.port.resetHeld = false → s.port.request = some c → exec (.spiTransaction clocked) s =
       .next { s with port := { s.port with
         shifted := shiftedOut (responseFrame .notReady (requestCode c) []) clocked.length } }))

/-- Reading back the frame written for a well-formed host request gives that request, with every operand at
every value its layout admits. -/
def Obligations.RequestFrameRoundTrip : Prop :=
  ∀ c : Instr, requestCode c ≠ 0 → c.wellFormed = true → readFrame (writeFrame c) = .request c

/-- The checks of an incoming frame, in their order. No byte, or a first byte of 0, is no request. A length
byte below 3 or more bytes announced than clocked in is MALFORMED (the kind echoed for a frame of one
byte: assumption logs 5 and 46), then an unknown kind is UNKNOWN_REQUEST, then a body that does not fit
the layout of its kind is MALFORMED: one shorter or longer than a fixed layout, a list with no entry or
with a part of an entry, a code named twice; a STATION_AMEND code outside 1 to 5 and more than 22 levels
likewise (assumption log 22). A frame that passes is handed on as the request of its kind, and bytes
beyond the length are ignored. That the body stands from byte 2, in a frame whose length byte is the
body's length plus 2, is the model's reading (assumption log 58). -/
def Obligations.FrameChecksInOrder : Prop :=
  (∀ clocked : List Byte, (clocked = [] ∨ clocked.head? = some 0) → readFrame clocked = .nothing) ∧
  (∀ n : Byte, n ≠ 0 → readFrame [n] = .refused .malformed none) ∧
  (∀ (n k : Byte) (rest : List Byte), n ≠ 0 → (n.toNat < 3 ∨ rest.length + 2 < n.toNat) →
    readFrame (n :: k :: rest) = .refused .malformed (some k.toNat)) ∧
  (∀ (n k : Byte) (rest : List Byte), 3 ≤ n.toNat → n.toNat ≤ rest.length + 2 →
    k.toNat ∉ requestCodes → readFrame (n :: k :: rest) = .refused .unknownRequest (some k.toNat)) ∧
  (∀ (n : Byte) (rest extra : List Byte), n.toNat = rest.length + 1 → 3 ≤ n.toNat →
    readFrame (n :: rest ++ extra) = readFrame (n :: rest)) ∧
  (∀ (n k : Byte) (rest : List Byte) (len size : Nat), n.toNat = len + 2 → 1 ≤ len →
    len ≤ rest.length →
    (k.toNat, size) ∈
      [(0x01, 1), (0x12, 2), (0x13, 2), (0x14, 2), (0x15, 2), (0x20, 6), (0x22, 1), (0x23, 2),
       (0x28, 5), (0x29, 1), (0x30, 5), (0x31, 1), (0x32, 1), (0x40, 2), (0x41, 2), (0x42, 2),
       (0x50, 8), (0x51, 8), (0x52, 2), (0x53, 2), (0x54, 2), (0x60, 9), (0x61, 2), (0x62, 1),
       (0x63, 1), (0x64, 1), (0x70, 1), (0x78, 1), (0x79, 1)] →
    (len ≠ size → readFrame (n :: k :: rest) = .refused .malformed (some k.toNat)) ∧
    (len = size → ∃ c, readFrame (n :: k :: rest) = .request c ∧ requestCode c = k.toNat)) ∧
  (∀ (n k : Byte) (rest : List Byte) (len head width : Nat) (code : Nat → Option Byte),
    n.toNat = len + 2 → 1 ≤ len → len ≤ rest.length →
    (k.toNat, head, width) ∈ [(0x10, 1, 3), (0x11, 2, 3), (0x21, 1, 2), (0x71, 0, 2)] →
    (∀ a, code a = if head + a * width < len then rest[head + a * width]? else none) →
    ((len < head + width ∨ (len - head) % width ≠ 0 ∨
        (∃ a b v, a < b ∧ code a = some v ∧ code b = some v) ∨
        (k.toNat = 0x21 ∧ ∃ a v, code a = some v ∧ (v.toNat < 1 ∨ 5 < v.toNat)) ∨
        (k.toNat = 0x71 ∧ 44 < len)) →
      readFrame (n :: k :: rest) = .refused .malformed (some k.toNat)) ∧
    (head + width ≤ len → (len - head) % width = 0 →
      (∀ a b v, a < b → code a = some v → code b ≠ some v) →
      (k.toNat = 0x21 → ∀ a v, code a = some v → 1 ≤ v.toNat ∧ v.toNat ≤ 5) →
      (k.toNat = 0x71 → len ≤ 44) →
      ∃ c, readFrame (n :: k :: rest) = .request c ∧ requestCode c = k.toNat))

/-! ### Requests that read -/

/-- A handle resolves exactly when its slot is non-FREE and its generation is the slot's, from 1 to 1023.
Every request that names a record by handle is refused with BAD_HANDLE when the handle does not resolve,
and, when it is meant for one kind, with BAD_KIND when the record is of another; nothing else changes. -/
def Obligations.HandlesAndKindsAreChecked : Prop :=
  (∀ (s : State) (h : Handle) (i : SlotIx),
     s.resolve h = some i ↔
       h.slot = i.val ∧ (s.record? i).isSome = true ∧ h.gen = s.gen i ∧ genInRange h.gen) ∧
  (∀ (c : Instr) (s : State) (h : Handle) (k : Option Kind),
     s.serves c → namedHandle c = some (h, k) →
     (s.resolve h = none → exec c s = .next (s.refuse c .badHandle)) ∧
     (∀ i r kind, s.resolve h = some i → s.record? i = some r → k = some kind → r.body.kind ≠ kind →
       exec c s = .next (s.refuse c .badKind)))

/-- LOOKUP_TAG: tag 0 is out of range; the record that holds the tag, in any lifecycle state, is given by
handle, kind and lifecycle; a tag that no record holds is answered as absent. -/
def Obligations.LookupTagFindsTheHolder : Prop :=
  ∀ (tag : Nat) (s : State), s.serves (.lookupTag tag) →
    (tag = 0 → exec (.lookupTag tag) s = .next (s.refuse (.lookupTag tag) .outOfRange)) ∧
    (∀ i r, tag ≠ 0 → s.record? i = some r → r.tag = tag →
      (∀ j r', j < i → s.record? j = some r' → r'.tag ≠ tag) →
      exec (.lookupTag tag) s = .next (s.respond (.lookupTag tag) .ok
        (u8 1 ++ u16 (i.val + 64 * s.gen i) ++ u8 r.body.kind.code ++ u8 r.lifecycle.code))) ∧
    (tag ≠ 0 → (∀ i r, s.record? i = some r → r.tag ≠ tag) →
      exec (.lookupTag tag) s = .next (s.respond (.lookupTag tag) .ok [0, 0, 0, 0, 0]))

/-- QUERY answers OK with the record as it stands, byte by byte as the layout gives it for its kind;
freshness is judged as the request is taken, coded 1 for fresh and 2 for stale (assumption log 21), and
the bytes of an absent time or unit are open (assumption log 5). LIST answers with the first 16 matching
slots from the start slot on, in ascending order, and with the next slot to ask for while there are more;
a start slot above 63 is refused before a kind that is none (assumption log 37). -/
def Obligations.QueryAndListShowTheTable : Prop :=
  (∀ (h : Handle) (s : State) (i : SlotIx) (r : Record) (body : List Byte),
     s.serves (.query h) → s.resolve h = some i → s.record? i = some r →
     body = recordBytes s.free s i r →
     exec (.query h) s = .next (s.respond (.query h) .ok body) ∧
     body.take 6 = u16 (i.val + 64 * s.gen i) ++ u8 r.body.kind.code ++ u8 r.lifecycle.code ++
       u16 r.tag ∧
     (∀ b, r.binding = some b → (body.drop 6).take 2 = u8 b.address ++ u8 b.unit) ∧
     (r.binding = none → (body.drop 6).take 1 = [0]) ∧
     (body.drop 8).take 1 = (if r.fresh && r.lastReport.any (fun x =>
       decide ((s.timeS - x).toNat ≤ s.param .staleTime)) then [1] else [2]) ∧
     (∀ x, r.lastReport = some x → (body.drop 9).take 5 = u8 1 ++ u32 x.toNat) ∧
     (r.lastReport = none → (body.drop 9).take 1 = [0]) ∧
     (∀ g, r.body = .genset g →
       (body.drop 14).take 14 = u16 g.rated ++ u16 g.minLoad ++ u8 g.rank ++ flag g.mustRun ++
         u8 g.runLine.val ++ u8 g.readyLine.val ++ u8 g.breakerLine.val ++
         (match g.permitLine with
           | some l => u8 l.val
           | none => [0xFF]) ++ u8 g.state.code ++ u8 g.attempts ++ u8 g.trips ++ flag g.fault ∧
       (∀ x, g.onlineSince = some x → (body.drop 28).take 5 = u8 1 ++ u32 x.toNat) ∧
       (g.onlineSince = none → (body.drop 28).take 1 = [0]) ∧
       body.drop 33 = u16 (g.output.getD 0xFFFF)) ∧
     (∀ p, r.body = .pv p →
       body.drop 14 = u16 p.rated ++ u8 p.cls ++ u16 (p.ramp.getD 0xFFFF) ++ u16 p.setpoint ++
         u16 (p.lastSent.getD 0xFFFF) ++ u16 (p.lastAck.getD 0xFFFF) ++ flag p.unconfirmed ++
         u16 (p.planCap.getD 0xFFFF) ++ u16 (p.output.getD 0xFFFF) ++
         u16 (p.available.getD 0xFFFF) ++ flag p.limited) ∧
     (∀ f, r.body = .feeder f →
       body.drop 14 = u8 f.cls ++ flag f.sheddable ++ u16 f.nominal ++ u8 f.tripLine.val ++
         (match f.closeLine with
           | some l => u8 l.val
           | none => [0xFF]) ++
         (match f.statusLine with
           | some l => u8 l.val
           | none => [0xFF]) ++ u8 f.state.code ++ u8 f.hold ++
         u8 (match f.cause with
           | none => 0
           | some c => c.code) ++ u16 (f.measured.getD 0xFFFF) ++ u32 f.lastChange.toNat) ∧
     body.length = (match r.body with
       | .genset _ => 35
       | .pv _ => 33
       | .feeder _ => 30)) ∧
  (∀ (first kind : Nat) (s : State), s.serves (.list first kind) →
     (63 < first → exec (.list first kind) s = .next (s.refuse (.list first kind) .outOfRange)) ∧
     (first ≤ 63 → 3 < kind → exec (.list first kind) s = .next (s.refuse (.list first kind) .badKind)) ∧
     (∀ found : List SlotIx, first ≤ 63 → kind ≤ 3 →
       found = (List.finRange 64).filter (fun i => decide (first ≤ i.val) &&
         (s.record? i).any (fun r => kind == 0 || r.body.kind.code == kind)) →
       exec (.list first kind) s = .next (s.respond (.list first kind) .ok
         ((if found.length ≤ 16 then u8 0xFF
           else u8 ((found[15]?).elim 0 (fun i => i.val + 1))) ++
         u8 (min 16 found.length) ++
         (found.take 16).flatMap (fun i => match s.record? i with
           | some r => u16 (i.val + 64 * s.gen i) ++ u8 r.body.kind.code ++ u8 r.lifecycle.code ++
               u16 r.tag
           | none => [])))))

/-- NOP is answered OK with no body; GRID_STATUS gives the grid state, the results, each FFFFh while they are
absent, the frequency, the stage flags, LIVE and the permit holder; STATION_QUERY gives the entry of an
address or an index, LINE_QUERY the line with its role, levels and activity, and PLAN_QUERY the plan with
up to 16 step entries, byte by byte as the layouts give them. What lies out of range is refused with
OUT_OF_RANGE. The bytes of what is absent, and of the levels of an UNUSED line, are open (assumption logs
5 and 21); the pin level is shown under the polarity (assumption log 21). -/
def Obligations.StatusQueriesAnswer : Prop :=
  ((∀ s : State, s.serves .nop → exec .nop s = .next (s.respond .nop .ok [])) ∧
   (∀ s : State, s.serves .gridStatus →
     exec .gridStatus s = .next (s.respond .gridStatus .ok
       (u8 s.blu.grid.code ++ flag s.blu.results.isSome ++
         (match s.blu.results with
           | some r => u32 r.load ++ i32 r.headroom ++ u32 r.required ++ u32 r.allowance
           | none => u32 0xFFFF ++ u32 0xFFFF ++ u32 0xFFFF ++ u32 0xFFFF) ++
         u32 s.bus.frequency ++
         flag s.bus.raised[0] ++ flag s.bus.raised[1] ++ flag s.bus.raised[2] ++
         flag s.bus.raised[3] ++ flag s.bus.live ++
         u16 (match s.gsq.permitHolder with
           | some i => i.val + 64 * s.gen i
           | none => 0))))) ∧
  ((∀ (index : Nat) (s : State), s.serves (.stationQuery 0 index) →
     (32 ≤ index → exec (.stationQuery 0 index) s =
       .next (s.refuse (.stationQuery 0 index) .outOfRange)) ∧
     (∀ hi : index < 32, ∃ body : List Byte, body.length = 11 ∧
       exec (.stationQuery 0 index) s = .next (s.respond (.stationQuery 0 index) .ok body) ∧
       (s.stations[index] = none → body.take 1 = [0]) ∧
       (∀ x, s.stations[index] = some x →
         body = u8 1 ++ u8 x.address ++ u8 index ++ u8 x.cls.code ++ u8 x.units ++ u8 x.access.code ++
           u8 x.allowance ++ u8 x.gap ++ u8 x.misses ++ u8 x.reach.code ++ flag x.due))) ∧
   (∀ (address index : Nat) (s : State), s.serves (.stationQuery address index) → address ≠ 0 →
     (∀ (d : DirIx) (x : Station), s.stations[d] = some x → x.address ≠ address) →
     exec (.stationQuery address index) s =
       .next (s.refuse (.stationQuery address index) .outOfRange)) ∧
   (∀ (address index : Nat) (s : State) (d : DirIx) (x : Station),
     s.serves (.stationQuery address index) → address ≠ 0 → s.stations[d] = some x →
     x.address = address → (∀ e y, e < d → s.stations[e] = some y → y.address ≠ address) →
     exec (.stationQuery address index) s = .next (s.respond (.stationQuery address index) .ok
       (u8 1 ++ u8 address ++ u8 d.val ++ u8 x.cls.code ++ u8 x.units ++ u8 x.access.code ++
         u8 x.allowance ++ u8 x.gap ++ u8 x.misses ++ u8 x.reach.code ++ flag x.due))) ∧
   (∀ (line : Nat) (s : State), s.serves (.lineQuery line) →
     (63 < line → exec (.lineQuery line) s = .next (s.refuse (.lineQuery line) .outOfRange)) ∧
     (∀ (l : LineIx) (x : Line), l.val = line → x = s.lines[l] → ∃ body : List Byte,
       body.length = 24 ∧
       exec (.lineQuery line) s = .next (s.respond (.lineQuery line) .ok body) ∧
       body.take 4 = u8 x.function.code ++ u8 x.polarity.code ++ u16 x.filter ∧
       ((∀ i r, s.record? i = some r → l ∉ r.lines) → (body.drop 4).take 3 = [0, 0, 0]) ∧
       (∀ i r role, s.record? i = some r → (role, l) ∈ r.roles →
         (∀ n, (n, l) ∈ r.roles → n = role) →
         (∀ j q, j ≠ i → s.record? j = some q → l ∉ q.lines) →
         (body.drop 4).take 3 = u16 (i.val + 64 * s.gen i) ++ u8 role) ∧
       (x.function.isInput = true →
         (body.drop 7).take 2 = flag (x.pin == (x.polarity == .activeHigh)) ++ flag x.filtered) ∧
       (x.function.isOutput = true → (body.drop 7).take 2 = [0xFF, 0xFF]) ∧
       (∀ e, x.function ∈ [LineFunction.statusIn, .readyIn, .genBreakerIn] → x.lastChange = some e →
         (body.drop 9).take 5 = u8 1 ++ u32 e.toNat) ∧
       (x.function ∉ [LineFunction.statusIn, .readyIn, .genBreakerIn] ∨ x.lastChange = none →
         (body.drop 9).take 1 = [0]) ∧
       (x.function.isOutput = true → (body.drop 14).take 1 = flag x.driven) ∧
       (x.function.isInput = true → (body.drop 14).take 1 = [0xFF]) ∧
       (x.pulse = none → x.window = none → (body.drop 15).take 1 = [0]) ∧
       (∀ e, x.pulse = some e → (body.drop 15).take 1 = [1] ∧ body.drop 20 = u32 e.toNat) ∧
       (∀ w, x.pulse = none → x.window = some w →
         body.drop 15 = u8 (if w.started then 3 else 2) ++ u32 w.start.toNat ++ u32 w.stop.toNat))) ∧
   (∀ (first : Nat) (s : State), s.serves (.planQuery first) →
     (31 < first → exec (.planQuery first) s = .next (s.refuse (.planQuery first) .outOfRange)) ∧
     (first ≤ 31 → ∃ body, exec (.planQuery first) s = .next (s.respond (.planQuery first) .ok body) ∧
       body.take 5 = u8 s.rsq.length ++ flag s.rsq.autoRun ++ u8 s.rsq.state.code ++
         u8 s.rsq.cursor.val ++ u8 (min 16 (32 - first)) ∧
       body.length = 5 + 10 * min 16 (32 - first) ∧
       ∀ (p : PosIx) (entry : List Byte), first ≤ p.val → p.val < first + 16 →
         entry = (body.drop (5 + 10 * (p.val - first))).take 10 →
         (s.rsq.steps[p] = none → entry.take 4 = u8 p.val ++ [0, 0, 0] ∧
           entry.drop 9 = u8 s.rsq.status[p].code) ∧
         (∀ x, s.rsq.steps[p] = some x →
           entry.take 2 = u8 p.val ++ u8 x.action.code ∧
           entry.drop 6 = u16 x.timeout ++ u8 x.onFailure.code ++ u8 s.rsq.status[p].code ∧
           (∀ h d, x.action = .startGenset h d →
             (entry.drop 2).take 4 = u16 (h.slot + 64 * h.gen) ++ u16 (if d then 1 else 0)) ∧
           (∀ h, x.action = .closeFeeder h → (entry.drop 2).take 2 = u16 (h.slot + 64 * h.gen)) ∧
           (∀ h cap, x.action = .releasePv h cap →
             (entry.drop 2).take 4 = u16 (h.slot + 64 * h.gen) ++ u16 cap) ∧
           (∀ v, (x.action = .settle v ∨ x.action = .gateReserve v) →
             (entry.drop 2).take 4 = [0, 0] ++ u16 v)))))

/-! ### Parameters, lines and notices -/

/-- GET_PARAMETER gives the identifier and the value in force of every parameter, and refuses an identifier
not in the table. SET_PARAMETER of a parameter whose write changes nothing else puts an accepted value in
force, keeps every other parameter, and refuses a value out of range, or one that breaks a condition of
its own: a BAUD that is none of the three rates, a UF threshold that would not leave the four strictly
descending, an OF_START or OF_FULL closer than 200 mHz or outside its distance from NOMINAL. A write of
NOTIFY_THRESHOLD judges NOTIFY anew. -/
def Obligations.ParametersAreReadAndWritten : Prop :=
  (∀ s : State,
     (∀ p : Param, s.serves (.getParameter p.id) → exec (.getParameter p.id) s =
       .next (s.respond (.getParameter p.id) .ok (u8 p.id ++ u32 (s.param p)))) ∧
     (∀ n, s.serves (.getParameter n) → (∀ p : Param, p.id ≠ n) →
       exec (.getParameter n) s = .next (s.refuse (.getParameter n) .outOfRange))) ∧
  ((∀ (p : Param) (v : Int) (s : State), s.serves (.setParameter p.id v) →
     ((v < 0 ∨ v < p.range.1 ∨ (p.range.2 : Int) < v) →
       exec (.setParameter p.id v) s = .next (s.refuse (.setParameter p.id v) .outOfRange)) ∧
     (s.accepts p v.toNat = false →
       exec (.setParameter p.id v) s = .next (s.refuse (.setParameter p.id v) .outOfRange)) ∧
     (p ∉ [Param.nominal, .evalPeriod, .pollCycle, .startLimit, .notifyThreshold] → 0 ≤ v →
       s.accepts p v.toNat = true →
       ∃ t : State, exec (.setParameter p.id v) s = .next (t.respond (.setParameter p.id v) .ok []) ∧
         t.param p = v.toNat ∧ (∀ q, q ≠ p → t.param q = s.param q) ∧
         { t with params := s.params } = s)) ∧
   (∀ (p : Param) (v : Nat) (s : State), s.accepts p v = true ↔
     p.range.1 ≤ v ∧ v ≤ p.range.2 ∧
     (p = .nominal → v = 50000 ∨ v = 60000) ∧
     (p = .baud → v = 115200 ∨ v = 230400 ∨ v = 460800) ∧
     (∀ k, p = .ufThreshold k → ∀ j,
       (j < k → v < s.param (.ufThreshold j)) ∧ (k < j → s.param (.ufThreshold j) < v)) ∧
     (p = .ofStart → s.param .nominal + 100 ≤ v ∧ v ≤ s.param .nominal + 2000 ∧
       v + 200 ≤ s.param .ofFull) ∧
     (p = .ofFull → s.param .ofStart + 200 ≤ v ∧ v ≤ s.param .nominal + 3000)) ∧
   (∀ (v : Nat) (s : State) (c : Instr), c = .setParameter 0x60 v → s.serves c → 1 ≤ v → v ≤ 7 →
     ∃ t : State, exec c s = .next (t.respond c .ok []) ∧ t.param .notifyThreshold = v ∧
       (∀ q, q ≠ .notifyThreshold → t.param q = s.param q) ∧
       t.ntu.held = s.ntu.held ∧ t.ntu.levels = s.ntu.levels ∧ t.notifyAgrees ∧
       { t with params := s.params, ntu := s.ntu } = s))

/-- A write of NOMINAL's other value sets the UF thresholds, OF_START and OF_FULL to their defaults for it;
any value but the two is refused. A write of another EVAL_PERIOD or POLL_CYCLE sets its deadline anew,
due the new period after now and with the new period, and no other deadline; a write of the value a
period has already changes nothing. A START_LIMIT below the gensets now cranking or resting is refused
with BUSY; any other is put in force, and one that raises the limit serves the crank wait list and then
runs start selection, in which the states entered start no run of their own (assumption log 23). An
identifier not in the table is refused with OUT_OF_RANGE. -/
def Obligations.WritesWithEffectsOfTheirOwn : Prop :=
  (∀ (v : Nat) (s : State), s.serves (.setParameter 0x10 v) →
     (v ≠ 50000 → v ≠ 60000 →
       exec (.setParameter 0x10 v) s = .next (s.refuse (.setParameter 0x10 v) .outOfRange)) ∧
     ((v = 50000 ∨ v = 60000) → v = s.param .nominal →
       exec (.setParameter 0x10 v) s = .next (s.respond (.setParameter 0x10 v) .ok [])) ∧
     ((v = 50000 ∨ v = 60000) → v ≠ s.param .nominal →
       ∃ t : State, exec (.setParameter 0x10 v) s = .next (t.respond (.setParameter 0x10 v) .ok []) ∧
         t.param .nominal = v ∧ t.param .ofStart = v + 200 ∧ t.param .ofFull = v + 1500 ∧
         (∀ k, t.param (.ufThreshold k) = if v = 60000 then #v[58800, 58440, 58080, 57600][k]
           else #v[49000, 48700, 48400, 48000][k]) ∧
         (∀ q, q ≠ .nominal → q ≠ .ofStart → q ≠ .ofFull → (∀ k, q ≠ .ufThreshold k) →
           t.param q = s.param q) ∧
         { t with params := s.params } = s)) ∧
  (∀ (v : Nat) (s : State),
     (s.serves (.setParameter 0x01 v) → 100 ≤ v → v ≤ 1000 → v ≠ s.param .evalPeriod →
       ∃ t : State, exec (.setParameter 0x01 v) s = .next (t.respond (.setParameter 0x01 v) .ok []) ∧
         t.param .evalPeriod = v ∧
         (⟨.evaluation, s.timeS + BitVec.ofNat 32 v, some v⟩ : Deadline) ∈ t.scu.entries ∧
         (∀ d ∈ t.scu.entries, d.key = .evaluation → d.period = some v) ∧
          (∀ d : Deadline, d.key ≠ .evaluation → (d ∈ t.scu.entries ↔ d ∈ s.scu.entries)) ∧
          (∀ k, k ≠ .evaluation → (k ∈ t.scu.delivered ↔ k ∈ s.scu.delivered)) ∧
         { t with params := s.params, scu := s.scu } = s) ∧
     (s.serves (.setParameter 0x51 v) → 200 ≤ v → v ≤ 5000 → v ≠ s.param .pollCycle →
       ∃ t : State, exec (.setParameter 0x51 v) s = .next (t.respond (.setParameter 0x51 v) .ok []) ∧
         t.param .pollCycle = v ∧
         (⟨.pollCycle, s.timeS + BitVec.ofNat 32 v, some v⟩ : Deadline) ∈ t.scu.entries ∧
         (∀ d ∈ t.scu.entries, d.key = .pollCycle → d.period = some v) ∧
          (∀ d : Deadline, d.key ≠ .pollCycle → (d ∈ t.scu.entries ↔ d ∈ s.scu.entries)) ∧
          (∀ k, k ≠ .pollCycle → (k ∈ t.scu.delivered ↔ k ∈ s.scu.delivered)) ∧
         { t with params := s.params, scu := s.scu } = s) ∧
     (s.serves (.setParameter 0x38 v) → 1 ≤ v → v ≤ 3 →
       (v < s.placesUsed →
         exec (.setParameter 0x38 v) s = .next (s.refuse (.setParameter 0x38 v) .busy)) ∧
       (s.placesUsed ≤ v → s.quiet →
         exec (.setParameter 0x38 v) s =
           .next ((s.setParam .startLimit v).respond (.setParameter 0x38 v) .ok [])))) ∧
  ((∀ (n : Nat) (v : Int) (s : State), s.serves (.setParameter n v) → (∀ p : Param, p.id ≠ n) →
     exec (.setParameter n v) s = .next (s.refuse (.setParameter n v) .outOfRange)) ∧
   (∀ (v : Nat) (s : State),
     (s.serves (.setParameter 0x01 v) → 100 ≤ v → v ≤ 1000 → v = s.param .evalPeriod →
       exec (.setParameter 0x01 v) s = .next (s.respond (.setParameter 0x01 v) .ok [])) ∧
     (s.serves (.setParameter 0x51 v) → 200 ≤ v → v ≤ 5000 → v = s.param .pollCycle →
       exec (.setParameter 0x51 v) s = .next (s.respond (.setParameter 0x51 v) .ok [])) ∧
     (s.serves (.setParameter 0x38 v) → 1 ≤ v → v ≤ 3 → s.placesUsed ≤ v →
       (v ≤ s.param .startLimit → exec (.setParameter 0x38 v) s =
         .next ((s.setParam .startLimit v).respond (.setParameter 0x38 v) .ok [])) ∧
       (s.param .startLimit < v →
         ∃ t : State, exec (.setParameter 0x38 v) s = .next (t.respond (.setParameter 0x38 v) .ok []) ∧
           SelectionRuns 0 (s.setParam .startLimit v) t))))

/-- An accepted LINE_CONFIGURE sets function, polarity and filter time together, leaves an output inactive
and an input's filtered level at the level its pin shows, clears the last change (assumption log 19), and
touches no other line; a change of what the GEN_BREAKER_IN lines show is delivered with the value of S. A
line number above 63, a code that is none, or a filter time above the range of an input function is
refused with OUT_OF_RANGE; the other functions take any filter time (assumption log 20). -/
def Obligations.LineConfigureTakesEffectAtOnce : Prop :=
  (∀ (l : LineIx) (f : LineFunction) (p : Polarity) (filter : Option Nat) (s : State) (c : Instr),
    c = .lineConfigure l.val f.code p.code filter → s.serves c →
    f.filterInRange (filter.getD f.defaultFilter) = true →
    ((s.lineUsers l).isEmpty = false → exec c s = .next (s.refuse c .lineInUse)) ∧
    (f = .zeroCrossIn → (∃ j, j ≠ l ∧ s.lines[j].function = .zeroCrossIn) →
      exec c s = .next (s.refuse c .lineInUse)) ∧
    ((s.lineUsers l).isEmpty = true →
      (f = .zeroCrossIn → ∀ j, s.lines[j].function = .zeroCrossIn → j = l) →
      ∃ t : State, exec c s = .next (t.respond c .ok []) ∧
        t.lines[l] = { s.lines[l] with
          function := f, polarity := p, filter := filter.getD f.defaultFilter,
          filtered := f.isInput && (s.lines[l].pin == (p == .activeHigh)), hold := none,
          lastChange := none, driven := false, pulse := none, window := none } ∧
        (∀ j, j ≠ l → t.lines[j] = s.lines[j]) ∧
        (t.lines[l].breakerClosed = s.lines[l].breakerClosed → t.mail = s.mail) ∧
        (s.lines[l].function = f → s.lines[l].polarity = p → t.mail = s.mail) ∧
        (s.lines[l].function ≠ f ∨ s.lines[l].polarity ≠ p →
          t.lines[l].breakerClosed ≠ s.lines[l].breakerClosed →
          t.mail = s.mail ++ [.breakerGsq l t.lines[l].breakerClosed s.timeS,
            .breakerBmn l t.lines[l].breakerClosed s.timeS]) ∧
        { t with lines := s.lines, mail := s.mail } = s)) ∧
  (∀ (line function polarity : Nat) (filter : Option Nat) (s : State) (c : Instr),
    c = .lineConfigure line function polarity filter → s.serves c →
    (63 < line ∨ function = 0 ∨ 9 < function ∨ polarity = 0 ∨ 2 < polarity ∨
      ∃ v, filter = some v ∧
        ((function ∈ [LineFunction.statusIn.code, LineFunction.readyIn.code,
            LineFunction.genBreakerIn.code] ∧ 50 < v) ∨
          (function = LineFunction.zeroCrossIn.code ∧ 500 < v))) →
    exec c s = .next (s.refuse c .outOfRange))

/-- A raise of a notice: a kind not pending becomes pending with count 1, a pending kind counts one more,
held at 255, and takes the new detail; no other kind changes, and NOTIFY is judged anew. After a power-on
reset, RESTARTED is pending with count 1, SETTINGS_LOST as well when the image is bad, and nothing else. -/
def Obligations.NoticesCountAndReplaceDetail : Prop :=
  (∀ (k : NoticeIx) (detail : Option Nat) (s : State),
    s.noticed (s.raise k detail) k detail ∧
    (∀ j, j ≠ k → (s.raise k detail).ntu.held[j] = s.ntu.held[j]) ∧
    (s.raise k detail).ntu.levels = s.ntu.levels ∧ (s.raise k detail).notifyAgrees ∧
    { s.raise k detail with ntu := s.ntu } = s) ∧
  (∀ (c : Instr) (s : State),
    (c = .powerOnReset ∨ (c = .resetInputReleased ∧ s.port.resetHeld = true) ∨
      (c = .restart ∧ s.serves .restart)) →
    ∃ t, exec c s = .next t ∧ t.notifyAgrees ∧
      ∀ k : NoticeIx, t.ntu.held[k] =
        if k = 21 ∨ (k = 20 ∧ s.store.load = none) then some { detail := none, count := 1 } else none)

/-- READ_NOTICES gives every pending kind in ascending order of code, each with its detail and count, empties
the pending set, and releases NOTIFY. -/
def Obligations.ReadNoticesEmptiesThePendingSet : Prop :=
  ∀ s : State, s.serves .readNotices → 1 ≤ s.param .notifyThreshold →
    ∃ entries : List Byte,
      entries = (List.finRange 22).flatMap (fun k => match s.ntu.held[k] with
        | some n => u8 (k.val + 1) ++ u8 (n.detail.getD 0xFF) ++ u8 n.count
        | none => []) ∧
      exec .readNotices s = .next
        ({ s with ntu := { s.ntu with held := Vector.replicate 22 none, notifyLow := false } }.respond
          .readNotices .ok
          (u8 ((List.finRange 22).filter (fun k : NoticeIx => s.ntu.held[k].isSome)).length ++ entries))

/-- An accepted SET_NOTICE_LEVELS sets every level it names and no other, keeps the pending notices, and
judges NOTIFY; a code not in the table or a level above 7 is refused. -/
def Obligations.NoticeLevelsSetTogether : Prop :=
  ∀ (pairs : List (Nat × Nat)) (s : State), s.serves (.setNoticeLevels pairs) → pairs ≠ [] →
    noneTwice pairs = true →
    ((∃ q ∈ pairs, q.1 = 0 ∨ 22 < q.1 ∨ 7 < q.2) →
      exec (.setNoticeLevels pairs) s = .next (s.refuse (.setNoticeLevels pairs) .outOfRange)) ∧
    ((∀ q ∈ pairs, 1 ≤ q.1 ∧ q.1 ≤ 22 ∧ q.2 ≤ 7) →
      ∃ t : State, exec (.setNoticeLevels pairs) s = .next (t.respond (.setNoticeLevels pairs) .ok []) ∧
        (∀ (k : NoticeIx) (v : Nat), (k.val + 1, v) ∈ pairs → t.ntu.levels[k] = v) ∧
        (∀ k : NoticeIx, (∀ v, (k.val + 1, v) ∉ pairs) → t.ntu.levels[k] = s.ntu.levels[k]) ∧
        t.ntu.held = s.ntu.held ∧ t.notifyAgrees ∧ { t with ntu := s.ntu } = s)

/-! ### Stored settings -/

/-- SAVE takes a snapshot and answers ACCEPTED, or BUSY while a save is in flight; at the completion of the
write, taken at any time (assumption log 28), the snapshot is what the next reset loads, and SAVE_DONE is
raised. The snapshot holds the parameters, the notice levels, the configuration of every line, the
Station Directory, the plan with its length and auto-run flag, and of every slot the generation and the
lifecycle, tag, binding, lines and configuration fields of its record. -/
def Obligations.SaveStoresTheSnapshot : Prop :=
  (∀ s : State,
     (s.serves .save → s.store.saving = none →
       exec .save s = .next ({ s with store := { s.store with
         spare := none, saving := some { snapshot := s.snapshot, since := s.now } } }.respond
           .save .accepted [])) ∧
     (s.serves .save → s.store.saving.isSome = true →
       exec .save s = .next (s.refuse .save .busy)) ∧
     (∀ w, s.port.resetHeld = false → s.store.saving = some w →
       ∃ t, exec .saveWriteComplete s = .next t ∧ t.store.load = some w.snapshot ∧
         t.store.saving = none ∧ t.store.spare = s.store.current ∧ s.noticed t NoticeKind.saveDone none ∧
         { t with store := s.store, ntu := s.ntu } = s)) ∧
  (∀ s : State,
     s.snapshot.params = s.params ∧ s.snapshot.levels = s.ntu.levels ∧
     s.snapshot.steps = s.rsq.steps ∧ s.snapshot.planLength = s.rsq.length ∧
     s.snapshot.autoRun = s.rsq.autoRun ∧
     (∀ l : LineIx, s.snapshot.lines[l] =
       { function := s.lines[l].function, polarity := s.lines[l].polarity, filter := s.lines[l].filter }) ∧
     (∀ d : DirIx, s.snapshot.stations[d] =
       (s.stations[d]).map (fun x => { x with misses := 0, reach := .unknown, due := false })) ∧
     (∀ i : SlotIx, s.snapshot.slots[i].gen = s.gen i ∧
       (s.record? i = none → s.snapshot.slots[i].record = none) ∧
       (∀ r, s.record? i = some r → ∃ q, s.snapshot.slots[i].record = some q ∧
         q.lifecycle = r.lifecycle ∧ q.tag = r.tag ∧ q.binding = r.binding ∧
         (∀ g, r.body = .genset g → ∃ x, q.body = .genset x ∧ x.rated = g.rated ∧
           x.minLoad = g.minLoad ∧ x.rank = g.rank ∧ x.mustRun = g.mustRun ∧ x.runLine = g.runLine ∧
           x.readyLine = g.readyLine ∧ x.breakerLine = g.breakerLine ∧ x.permitLine = g.permitLine) ∧
         (∀ p, r.body = .pv p → ∃ x, q.body = .pv x ∧ x.rated = p.rated ∧ x.cls = p.cls ∧
           x.ramp = p.ramp) ∧
         (∀ f, r.body = .feeder f → ∃ x, q.body = .feeder x ∧ x.cls = f.cls ∧
           x.sheddable = f.sheddable ∧ x.nominal = f.nominal ∧ x.tripLine = f.tripLine ∧
           x.closeLine = f.closeLine ∧ x.statusLine = f.statusLine))))

/-! ### Stations and the asset table -/

/-- STATION_ADD: a value out of range, the class and access codes among them, is refused; the address held
or the directory full refuses it too, otherwise the entry is created at the lowest free index. STATION_DROP
removes an entry no record binds. STATION_AMEND makes its changes together and keeps the reachability and
the miss count; a field code outside 1 to 5, which a frame cannot carry, is refused with OUT_OF_RANGE as a
value out of range is (assumption log 22). A station fits a unit and a kind when it has the unit, and the
class and access of R6 for the kind. -/
def Obligations.StationRequestsKeepTheDirectory : Prop :=
  (∀ (a : Nat) (cls : StationClass) (units : Nat) (access : Access) (allowance gap : Nat) (s : State)
      (c : Instr),
    c = .stationAdd a cls.code units access.code allowance gap → s.serves c →
    ((a = 0 ∨ 247 < a ∨ units = 0 ∨ 4 < units ∨ allowance < 2 ∨ 100 < allowance ∨ 20 < gap) →
      exec c s = .next (s.refuse c .outOfRange)) ∧
    (1 ≤ a → a ≤ 247 → 1 ≤ units → units ≤ 4 → 2 ≤ allowance → allowance ≤ 100 → gap ≤ 20 →
      ((∃ (d : DirIx) (x : Station), s.stations[d] = some x ∧ x.address = a) →
        exec c s = .next (s.refuse c .stationInUse)) ∧
      ((∀ (d : DirIx) (x : Station), s.stations[d] = some x → x.address ≠ a) →
        ((∀ d : DirIx, s.stations[d] ≠ none) → exec c s = .next (s.refuse c .tableFull)) ∧
        (∀ d : DirIx, s.stations[d] = none → (∀ e : DirIx, e < d → s.stations[e] ≠ none) →
          exec c s = .next ({ s with stations := s.stations.set d (some
            { address := a, cls := cls, units := units, access := access, allowance := allowance,
              gap := gap, misses := 0, reach := .unknown, due := false }) }.respond c .ok
            [BitVec.ofNat 8 d.val]))))) ∧
  (∀ (a : Nat) (s : State), s.serves (.stationDrop a) →
    ((∀ (d : DirIx) (x : Station), s.stations[d] = some x → x.address ≠ a) →
      exec (.stationDrop a) s = .next (s.refuse (.stationDrop a) .outOfRange)) ∧
    (∀ (d : DirIx) (x : Station), s.stations[d] = some x → x.address = a →
      (∀ (e : DirIx) (y : Station), e < d → s.stations[e] = some y → y.address ≠ a) →
      ((∃ i r b, s.record? i = some r ∧ r.binding = some b ∧ b.address = a) →
        exec (.stationDrop a) s = .next (s.refuse (.stationDrop a) .stationInUse)) ∧
      ((∀ i r b, s.record? i = some r → r.binding = some b → b.address ≠ a) →
        exec (.stationDrop a) s =
          .next ({ s with stations := s.stations.set d none }.respond (.stationDrop a) .ok [])))) ∧
  (∀ (a : Nat) (changes : List (Nat × Nat)) (s : State) (d : DirIx) (x : Station),
    s.serves (.stationAmend a changes) → noneTwice changes = true →
    s.stations[d] = some x → x.address = a →
    (∀ (e : DirIx) (y : Station), e < d → s.stations[e] = some y → y.address ≠ a) →
    ((∃ q ∈ changes, stationFieldInRange q.1 q.2 = false) →
      exec (.stationAmend a changes) s = .next (s.refuse (.stationAmend a changes) .outOfRange)) ∧
    ((∀ q ∈ changes, stationFieldInRange q.1 q.2 = true) →
      ∃ y : Station,
        (∀ k, (1, k) ∈ changes → y.cls.code = k) ∧ ((∀ k, (1, k) ∉ changes) → y.cls = x.cls) ∧
        (∀ k, (2, k) ∈ changes → y.units = k) ∧ ((∀ k, (2, k) ∉ changes) → y.units = x.units) ∧
        (∀ k, (3, k) ∈ changes → y.access.code = k) ∧ ((∀ k, (3, k) ∉ changes) → y.access = x.access) ∧
        (∀ k, (4, k) ∈ changes → y.allowance = k) ∧
        ((∀ k, (4, k) ∉ changes) → y.allowance = x.allowance) ∧
        (∀ k, (5, k) ∈ changes → y.gap = k) ∧ ((∀ k, (5, k) ∉ changes) → y.gap = x.gap) ∧
        y.address = x.address ∧ y.reach = x.reach ∧ y.misses = x.misses ∧
        y.due = (x.due && y.access != .commandOnly) ∧
        ((∃ i r b, s.record? i = some r ∧ r.binding = some b ∧ b.address = a ∧
            y.fits b.unit r.body.kind = false) →
          exec (.stationAmend a changes) s =
            .next (s.refuse (.stationAmend a changes) .stationInUse)) ∧
        ((∀ i r b, s.record? i = some r → r.binding = some b → b.address = a →
            y.fits b.unit r.body.kind = true) →
          exec (.stationAmend a changes) s =
            .next ({ s with stations := s.stations.set d (some y) }.respond
              (.stationAmend a changes) .ok [])))) ∧
  (∀ (a cls units access allowance gap : Nat) (s : State) (c : Instr),
    c = .stationAdd a cls units access allowance gap → s.serves c →
    (cls = 0 ∨ 3 < cls ∨ access = 0 ∨ 3 < access) → exec c s = .next (s.refuse c .outOfRange)) ∧
  (∀ q : Nat × Nat, stationFieldInRange q.1 q.2 = true ↔
    (q.1 = 1 ∧ 1 ≤ q.2 ∧ q.2 ≤ 3) ∨ (q.1 = 2 ∧ 1 ≤ q.2 ∧ q.2 ≤ 4) ∨ (q.1 = 3 ∧ 1 ≤ q.2 ∧ q.2 ≤ 3) ∨
    (q.1 = 4 ∧ 2 ≤ q.2 ∧ q.2 ≤ 100) ∨ (q.1 = 5 ∧ q.2 ≤ 20)) ∧
  (∀ (y : Station) (unit : Nat) (k : Kind), y.fits unit k = true ↔ unit < y.units ∧
    ((k = .genset ∧ y.cls = .gensetCtrl ∧ y.access = .reportCommand) ∨
      (k = .pv ∧ y.cls = .pvCtrl ∧ y.access = .reportCommand) ∨
      (k = .feeder ∧ y.cls = .feederMeter ∧ y.access ≠ .commandOnly))) ∧
  (∀ (a : Nat) (changes : List (Nat × Nat)) (s : State), s.serves (.stationAmend a changes) →
    (∀ (d : DirIx) (x : Station), s.stations[d] = some x → x.address ≠ a) →
    exec (.stationAmend a changes) s = .next (s.refuse (.stationAmend a changes) .outOfRange))

/-- REGISTER: the checks in their order, each with its refusal: the kind, the fields of the kind, the parts
required, the cap, the ranges (a line number above 63 among them: assumption log 50), the binding, the
lines in the order of their field codes (assumption log 11), the tag. What an accepted one creates: the
record in the lowest FREE slot, with its fields from the request and the values of R9, its handle in the
answer; nothing else changes but a new genset's run output and, in COOLDOWN, its genset timer, due
COOL_TIME later. -/
def Obligations.RegisterCreatesTheRecord : Prop :=
  (∀ (kind : Nat) (fields : List (Nat × Nat)) (s : State) (c : Instr),
    c = .register kind fields → s.serves c → (kind = 0 ∨ 3 < kind) →
    exec c s = .next (s.refuse c .outOfRange)) ∧
  (∀ (k : Kind) (fields : List (Nat × Nat)) (s : State) (c : Instr),
    c = .register k.code fields → s.serves c → noneTwice fields = false →
    exec c s = .next (s.refuse c .malformed)) ∧
  (∀ (k : Kind) (fields : List (Nat × Nat)) (s : State) (c : Instr) (r0 : Record),
    c = .register k.code fields → s.serves c → noneTwice fields = true →
    r0 = ({ lifecycle := .provisional, tag := 0, binding := none, lastReport := none, fresh := false,
            body := k.blankBody } : Record).given fields →
    ((∃ q ∈ fields, q.1 ∉ k.codes) → exec c s = .next (s.refuse c .badKind)) ∧
    ((∀ q ∈ fields, q.1 ∈ k.codes) → (∃ n ∈ k.required, ∀ v, (n, v) ∉ fields) →
      exec c s = .next (s.refuse c .malformed)) ∧
    ((∀ q ∈ fields, q.1 ∈ k.codes) → (∀ n ∈ k.required, ∃ v, (n, v) ∈ fields) →
      k.cap ≤ s.kindCount k → exec c s = .next (s.refuse c .tableFull)) ∧
    ((∀ q ∈ fields, q.1 ∈ k.codes) → (∀ n ∈ k.required, ∃ v, (n, v) ∈ fields) →
      s.kindCount k < k.cap → ¬ rangesFit k fields r0 → exec c s = .next (s.refuse c .outOfRange)) ∧
    (∀ e, (∀ q ∈ fields, q.1 ∈ k.codes) → (∀ n ∈ k.required, ∃ v, (n, v) ∈ fields) →
      s.kindCount k < k.cap → rangesFit k fields r0 → s.namingFails none k fields r0 e →
      exec c s = .next (s.refuse c e)) ∧
    (∀ i : SlotIx, (∀ q ∈ fields, q.1 ∈ k.codes) → (∀ n ∈ k.required, ∃ v, (n, v) ∈ fields) →
      s.kindCount k < k.cap → rangesFit k fields r0 →
      (∀ e, ¬ s.namingFails none k fields r0 e) → s.record? i = none →
      (∀ j, j < i → (s.record? j).isSome = true) →
      ∃ (t : State) (r : Record),
        exec c s = .next (t.respond c .ok (u16 (i.val + 64 * s.gen i))) ∧
        t.slots = s.slots.set i { gen := s.gen i, record := some r } ∧
        (1, r.tag) ∈ fields ∧ r.lastReport = none ∧ r.fresh = false ∧
        (∀ v, (2, v) ∈ fields → r.binding =
          if v = 0xFFFF then none else some { address := v % 256, unit := v / 256 }) ∧
        ((∀ v, (2, v) ∉ fields) → r.binding = none) ∧
        r.lifecycle = (if k = .feeder ∧ r.binding = none then .active else .provisional) ∧
        (match r.body with
          | .genset g =>
            k = .genset ∧ (3, g.rated) ∈ fields ∧ (4, g.minLoad) ∈ fields ∧ (5, g.rank) ∈ fields ∧
            (6, if g.mustRun then 1 else 0) ∈ fields ∧ (7, g.runLine.val) ∈ fields ∧
            (8, g.readyLine.val) ∈ fields ∧ (9, g.breakerLine.val) ∈ fields ∧
            (∀ l, g.permitLine = some l → (10, l.val) ∈ fields) ∧
            (g.permitLine = none → ∀ v, (10, v) ∈ fields → v = 0xFFFF) ∧
            g.attempts = 0 ∧ g.trips = 0 ∧ g.output = none ∧ g.fault = false ∧
            g.state = (if s.filtered g.breakerLine ∧ s.filtered g.readyLine ∧ s.lines[g.runLine].driven
              then .online
              else if s.filtered g.readyLine ∧ s.lines[g.runLine].driven = false then .cooldown
              else .stopped) ∧
            g.onlineSince = (if g.state = .online then some 0 else none) ∧
            t.lines = s.lines.set g.runLine
              { s.lines[g.runLine] with driven := g.state == .online } ∧
            (g.state = .cooldown → t.isSet (.gensetTimer i) = true ∧
              t.scu = (s.setDeadline (.gensetTimer i) (s.param .coolTime * 1000)).scu ∧
              (s.param .coolTime ≠ 0 →
                (⟨.gensetTimer i, s.timeS + BitVec.ofNat 32 (s.param .coolTime * 1000), none⟩ : Deadline) ∈
                  t.scu.entries)) ∧
            (g.state ≠ .cooldown → t.scu = s.scu)
          | .pv p =>
            k = .pv ∧ (3, p.rated) ∈ fields ∧ (4, p.cls) ∈ fields ∧
            (∀ v, (5, v) ∈ fields → p.ramp = if v = 0xFFFF then none else some v) ∧
            ((∀ v, (5, v) ∉ fields) → p.ramp = none) ∧
            p = { rated := p.rated, cls := p.cls, ramp := p.ramp, lastSent := none, lastAck := none,
                  setpoint := if s.blu.grid = .dark ∨ s.blu.grid = .restoring then 0 else p.rated,
                  unconfirmed := false, planCap := none, output := none, available := none,
                  limited := false } ∧
            t.lines = s.lines ∧ t.scu = s.scu
          | .feeder f =>
            k = .feeder ∧ (3, f.cls) ∈ fields ∧ (4, if f.sheddable then 1 else 0) ∈ fields ∧
            (5, f.nominal) ∈ fields ∧ (6, f.tripLine.val) ∈ fields ∧
            (∀ l, f.closeLine = some l → (7, l.val) ∈ fields) ∧
            (f.closeLine = none → ∀ v, (7, v) ∈ fields → v = 0xFFFF) ∧
            (∀ l, f.statusLine = some l → (8, l.val) ∈ fields) ∧
            (f.statusLine = none → ∀ v, (8, v) ∈ fields → v = 0xFFFF) ∧
            f.hold = 0 ∧ f.measured = none ∧ f.lastChange = s.timeS ∧ f.pendingCause = none ∧
            (f.state, f.cause) = (match f.statusLine with
              | some l => if s.filtered l then (.closed, none) else (.tripped, some .unknown)
              | none => (.closed, none)) ∧
            t.lines = s.lines ∧ t.scu = s.scu) ∧
        { t with slots := s.slots, lines := s.lines, scu := s.scu } = s))

/-- AMEND: the checks in their order, each with its refusal: the fields of the kind, the ranges (a line
number above 63 among them: assumption log 50), the locks, the binding, the lines (in the order of their
field codes: assumption log 11; a line given to the role it already serves passes: assumption log 38),
the tag. An accepted one leaves the record with the named fields at their new values and every other
configuration field as it was. A changed binding clears the reported values and the freshness, sets the
lifecycle and takes the queued setpoints off; that a binding named again as it stands is no change is the
model's choice (assumption log 48). A PV setpoint is lowered to the rated. A new or changed status line
that reads closed makes a feeder CLOSED. A feeder leaves the armed sets its new class or sheddable flag
shuts it out of, by the window class as last written (assumption log 53). A released line is inactive
with its pulse and window ended; the pulse of a trip line replaced runs on for the new one (assumption
log 35). Nothing else changes. -/
def Obligations.AmendChangesTheNamedFields : Prop :=
  ∀ (h : Handle) (fields : List (Nat × Nat)) (s : State) (c : Instr) (i : SlotIx) (r r' : Record)
      (rebound : Bool),
    c = .amend h fields → s.serves c → s.resolve h = some i → s.record? i = some r →
    r' = r.given fields → rebound = decide (r'.binding ≠ r.binding) →
    (noneTwice fields = false → exec c s = .next (s.refuse c .malformed)) ∧
    (noneTwice fields = true → (∃ q ∈ fields, q.1 ∉ r.body.kind.codes) →
      exec c s = .next (s.refuse c .badKind)) ∧
    (noneTwice fields = true → (∀ q ∈ fields, q.1 ∈ r.body.kind.codes) →
      (¬ rangesFit r.body.kind fields r' → exec c s = .next (s.refuse c .outOfRange)) ∧
      (rangesFit r.body.kind fields r' → (∃ q ∈ fields, r.fieldLocked q.1) →
        exec c s = .next (s.refuse c .fieldLocked)) ∧
      (rangesFit r.body.kind fields r' → (∀ q ∈ fields, ¬ r.fieldLocked q.1) →
        (∀ e, s.namingFails (some i) r.body.kind fields r' e → exec c s = .next (s.refuse c e)) ∧
        ((∀ e, ¬ s.namingFails (some i) r.body.kind fields r' e) →
          ∃ (t : State) (b : Body), exec c s = .next (t.respond c .ok []) ∧
            t.slots = s.slots.set i
              { gen := s.gen i
                record := some
                  { lifecycle := if rebound then (if r'.binding = none then .active else .provisional)
                      else r.lifecycle,
                    tag := r'.tag, binding := r'.binding,
                    lastReport := if rebound then none else r.lastReport,
                    fresh := r.fresh && !rebound, body := b } } ∧
            t.link = { s.link with setpoints :=
              if rebound then s.link.setpoints.filter (fun e => e.slot != i) else s.link.setpoints } ∧
            (∀ g, r'.body = .genset g →
              b = .genset { g with
                output := if rebound then none else g.output, fault := g.fault && !rebound } ∧
              t.shu = s.shu ∧ t.mail = s.mail) ∧
            (∀ p, r'.body = .pv p →
              b = .pv { p with
                setpoint := min p.setpoint p.rated, output := if rebound then none else p.output,
                available := if rebound then none else p.available,
                limited := p.limited && !rebound } ∧
              t.shu = s.shu ∧ t.mail = s.mail) ∧
            (∀ f f', r.body = .feeder f → r'.body = .feeder f' → ∃ closes : Bool,
              closes = (decide (f'.statusLine ≠ f.statusLine) && f'.statusLine.any s.filtered) ∧
              b = .feeder { f' with
                measured := if rebound then none else f'.measured,
                state := if closes then .closed else f.state,
                cause := if closes then none else f.cause,
                lastChange := if closes then s.timeS else f.lastChange } ∧
              t.mail = (if closes then s.mail ++ [.feederClosed i] else s.mail) ∧
              (∀ k : StageIx, t.shu.armed[k] =
                if (f'.sheddable ≠ f.sheddable ∨ f'.cls ≠ f.cls) ∧
                    (f'.sheddable = false ∨ s.param (.ufWindow k) < f'.cls)
                then s.shu.armed[k].filter (fun j => j != i) else s.shu.armed[k]) ∧
              { t.shu with armed := s.shu.armed } = s.shu ∧
              (f'.tripLine ≠ f.tripLine → t.lines[f'.tripLine] =
                { s.lines[f'.tripLine] with pulse := s.lines[f.tripLine].pulse })) ∧
            (∀ l, l ∈ r.lines → l ∉ r'.lines → t.lines[l] =
              { s.lines[l] with driven := false, pulse := none, window := none }) ∧
            (∀ l, (l ∈ r.lines → l ∈ r'.lines) →
              (∀ f f', r.body = .feeder f → r'.body = .feeder f' →
                f'.tripLine = f.tripLine ∨ l ≠ f'.tripLine) → t.lines[l] = s.lines[l]) ∧
            { t with slots := s.slots, link := s.link, shu := s.shu, lines := s.lines,
                     mail := s.mail } = s)))

/-- A slot that becomes FREE: its generation rises by one, or from 1023 to 1, its deadlines and queue
entries are gone, its outputs are inactive, no armed set, batch, list or candidate holds it, and RETIRE_DONE
is raised with the slot. Every other line, deadline, queue entry, set member and notice stays as it was; an
emptied batch asks for a re-evaluation. -/
def Obligations.FreeingASlotClearsIt : Prop :=
  ∀ (i : SlotIx) (r : Record) (s : State), s.record? i = some r →
    ∃ t, s.freeSlot i = t ∧
      t.slots = s.slots.set i { gen := t.gen i, record := none } ∧
      (s.gen i < 1023 → t.gen i = s.gen i + 1) ∧ (s.gen i = 1023 → t.gen i = 1) ∧
      t.isSet (.gensetTimer i) = false ∧ t.isSet (.breakerConfirm i) = false ∧
      (∀ k, k ≠ .gensetTimer i → k ≠ .breakerConfirm i →
        (k ≠ .recloseDelay ∨ s.shu.recloseCandidate ≠ some i) → s.keepsDeadline t k) ∧
      t.link = { s.link with
        setpoints := s.link.setpoints.filter (fun e => e.slot != i),
        commands := s.link.commands.filter (fun e => e.slot != i) } ∧
      (∀ l ∈ r.lines, t.lines[l] = { s.lines[l] with driven := false, pulse := none, window := none }) ∧
      (∀ l : LineIx, l ∉ r.lines → t.lines[l] = s.lines[l]) ∧
      (∀ k : StageIx, t.shu.armed[k] = s.shu.armed[k].filter (fun j => j != i)) ∧
      t.shu = { s.shu with
        armed := t.shu.armed, batch := s.shu.batch.filter (fun j => j != i),
        recloseCandidate :=
          if s.shu.recloseCandidate = some i then none else s.shu.recloseCandidate } ∧
      (s.shu.recloseCandidate = some i → t.isSet .recloseDelay = false) ∧
      t.gsq = { s.gsq with
        waitList := s.gsq.waitList.filter (fun j => j != i),
        waiters := s.gsq.waiters.filter (fun j => j != i),
        permitHolder := if s.gsq.permitHolder = some i then none else s.gsq.permitHolder } ∧
      t.blu = { s.blu with
        minRunMark := s.blu.minRunMark.set i false,
        reevaluation := s.blu.reevaluation ||
          (s.shu.batch.contains i && (s.shu.batch.filter (fun j => j != i)).isEmpty) } ∧
      s.noticedAlone t NoticeKind.retireDone (some i) ∧
      { t with slots := s.slots, ntu := s.ntu, link := s.link, blu := s.blu, gsq := s.gsq,
               shu := s.shu, scu := s.scu, lines := s.lines } = s

/-- RETIRE by the kind and the state of the record: refused with PLAN_REFERENCE while a stored step names
it, freed at once and answered OK, moved to RETIRING and answered ACCEPTED, or refused with BUSY or NEEDED;
a record already RETIRING is answered ACCEPTED. A deferred retire ends, the slot FREE and RETIRE_DONE
noticed: a RETIRING genset at its entry to STOPPED or LOCKOUT, a RETIRING PV plant at the ACK of 0 or at its
station's entry to UNREACHABLE. The unload time and the breaker that opens move a RETIRING genset from
UNLOADING to COOLDOWN, and a breaker that opens in COOLDOWN with no timer set frees it; start selection runs
after each (assumption log 23), the genset is the one the line serves when GSQ takes the change (assumption
log 25), and the permit is worked after the genset (assumption log 40). A missed transaction of any errand
at MISS_LIMIT frees the RETIRING plants of its station and leaves a missed setpoint of another plant
unconfirmed. The retire of an ONLINE genset, which leaves ONLINE with no hand-over to RSQ (assumption log
24), has its UNLOAD queued and, on a free line, the arbiter chooses (the time a frame takes: assumption log
10). -/
def Obligations.RetireByKindAndState : Prop :=
  (∀ (h : Handle) (s : State) (c : Instr) (i : SlotIx) (r : Record),
    c = .retire h → s.serves c → s.resolve h = some i → s.record? i = some r →
    ((∃ (p : PosIx) (x : PlanStep), s.rsq.steps[p] = some x ∧ x.action.target = some (s.handleOf i)) →
      exec c s = .next (s.refuse c .planReference)) ∧
    ((∀ (p : PosIx) (x : PlanStep) (g : Handle), s.rsq.steps[p] = some x → x.action.target = some g →
        s.resolve g ≠ some i) →
      (r.lifecycle = .retiring → exec c s = .next (s.respond c .accepted [])) ∧
      (r.lifecycle ≠ .retiring →
        (∀ g, r.body = .genset g →
          (g.state = .stopped ∨ g.state = .lockout →
            exec c s = .next ((s.freeSlot i).respond c .ok [])) ∧
          (g.state ∈ [.cranking, .resting, .runUp, .syncing, .unloading, .cooldown] →
            exec c s = .next (s.refuse c .busy)) ∧
          (g.state = .online → (s.blu.results = none ∨ s.otherOnline i = false) →
            exec c s = .next (s.refuse c .needed)) ∧
          (∀ x, g.state = .online → s.blu.results = some x → s.otherOnline i = true →
            ((x.headroom - g.rated - s.retiringRated i < (x.required : Int) + s.param .stopMargin) →
              exec c s = .next (s.refuse c .needed)) ∧
            (((x.required : Int) + s.param .stopMargin ≤ x.headroom - g.rated - s.retiringRated i) →
              s.quiet →
              ∃ t : State, exec c s = .next (t.respond c .accepted []) ∧
                t.lifecycle? i = some .retiring ∧ t.gensetState i = some .unloading ∧
                s.unloads t i { r with lifecycle := .retiring } g))) ∧
        (∀ p, r.body = .pv p →
          (r.lifecycle = .provisional ∨ (∃ x u, s.boundTo i = some (x, u) ∧ x.reach = .unreachable) →
            exec c s = .next ((s.freeSlot i).respond c .ok [])) ∧
          (r.lifecycle = .active → (∀ x u, s.boundTo i = some (x, u) → x.reach ≠ .unreachable) →
            ∃ (t : State) (p' : Pv), exec c s = .next (t.respond c .accepted []) ∧
              t.lifecycle? i = some .retiring ∧ t.pv? i = some p' ∧ p'.setpoint = 0 ∧
              t.inHands i = some 0 ∧
              { t with slots := s.slots, stations := s.stations, link := s.link } = s)) ∧
        (∀ f, r.body = .feeder f →
          (f.state ∈ [.closed, .tripped, .breakerFail, .tripPending] →
            exec c s = .next ((s.freeSlot i).respond c .ok [])) ∧
          (f.state ∈ [.opening, .closePending, .closing] → exec c s = .next (s.refuse c .busy)))))) ∧
  (∀ (i : SlotIx) (s s0 : State) (g : Genset), s.expires (.gensetTimer i) s0 → s.genset? i = some g →
    s.lifecycle? i = some .retiring →
    (g.state = .unloading → ∃ u t, exec (.unloadTimeExpiry i) s = .next t ∧ s0.cooling u i g ∧
      SelectionRuns 0 u t) ∧
    (g.state = .cooldown → s.filtered g.breakerLine = false →
      (∃ u t, exec (.coolTimeExpiry i) s = .next t ∧ s0.cooled u i g ∧ u.freed (u.freeSlot i) i ∧
        SelectionRuns 0 (u.freeSlot i) t) ∧
      (s.quiet → s.noPermit →
        ∃ t, exec (.coolTimeExpiry i) s = .next t ∧ s.freed t i ∧
          (∀ j, j ≠ i → t.slots[j] = s.slots[j]) ∧
          t.lines[g.runLine].driven = false ∧ t.isSet (.gensetTimer i) = false))) ∧
  (∀ (l : LineIx) (i : SlotIx) (s s0 : State) (g : Genset),
    s.takes Message.breakerGsq? (l, false) s0 → s.genset? i = some g → g.breakerLine = l →
    (∀ j x, j ≠ i → s.genset? j = some x → x.breakerLine ≠ l) → s.lifecycle? i = some .retiring →
    (g.state = .unloading → ∃ u v t, exec .genBreakerChange s = .next t ∧ s0.cooling u i g ∧
      SelectionRuns 0 u v ∧ v.grantTried t) ∧
    (g.state = .cooldown → s.isSet (.gensetTimer i) = false →
      ∃ u v t, exec .genBreakerChange s = .next t ∧ s0.cooled u i g ∧ u.freed (u.freeSlot i) i ∧
        SelectionRuns 0 (u.freeSlot i) v ∧ v.grantTried t) ∧
    (g.state = .cooldown → s.isSet (.gensetTimer i) = true →
      ∃ t, exec .genBreakerChange s = .next t ∧ s0.grantTried t)) ∧
  (∀ (l : LineIx) (i : SlotIx) (s s0 : State) (g : Genset), s.takes Message.readyGsq? (l, false) s0 →
    s.genset? i = some g → g.readyLine = l →
    (∀ j x, j ≠ i → s.genset? j = some x → x.readyLine ≠ l) →
    s.lifecycle? i = some .retiring → g.state = .unloading →
    (∃ u t, exec .gensetReadyChange s = .next t ∧ s0.lockedOut u i g ∧ u.freed (u.freeSlot i) i ∧
      SelectionRuns 0 (u.freeSlot i) t) ∧
    (s.quiet → s.noPermit →
      ∃ t, exec .gensetReadyChange s = .next t ∧ s.freed t i ∧
        (∀ j, j ≠ i → t.slots[j] = s.slots[j]) ∧ s.noticed t NoticeKind.gensetLockout (some i.val) ∧
        t.lines[g.runLine].driven = false ∧ t.isSet (.gensetTimer i) = false ∧
        (∀ e ∈ t.link.commands, e.slot ≠ i))) ∧
  (∀ (s : State) (x : Transaction) (till : Nat) (i : SlotIx) (n u : Nat) (p : Pv) (frame : List Byte),
    s.port.resetHeld = false → s.link.transaction = some x → s.link.phase = .waiting till →
    x.errand = .setpoint i n u 0 → x.address < 256 → u < 256 → s.gen i = n →
    (s.record? i).bind Record.binding = some { address := x.address, unit := u } →
    s.lifecycle? i = some .retiring → s.pv? i = some p →
    frame = fieldFrame x.address 0x82 (u8 u ++ u16 0) →
    ∃ t, exec (.fieldFrameReceived frame) s = .next t ∧ s.freed t i ∧
      (∀ j, j ≠ i → t.slots[j] = s.slots[j]) ∧ (∀ e ∈ t.link.setpoints, e.slot ≠ i)) ∧
  (∀ (s s0 : State) (x : Transaction) (till : Nat) (d : DirIx) (y : Station),
    s.port.resetHeld = false → s.link.transaction = some x → s.link.phase = .waiting till →
    s0 = s.runTo till → s.link.receiving = none → x.retry = true → s.stationAt x.address d y →
    s.param .missLimit ≤ y.misses + 1 → y.reach ≠ .unreachable →
    ∃ t, exec .replyAllowanceExpiry s = .next t ∧
      t.stations = s.stations.set d
        (some { y with misses := s.param .missLimit, reach := .unreachable }) ∧
      s.noticed t NoticeKind.stationUnreachable (some x.address) ∧
      t.link = { s.link.ended s0.now x.gap with
        setpoints := t.link.setpoints, commands := t.link.commands } ∧
      (∀ i r, s.record? i = some r → r.body.kind = .pv → r.lifecycle = .retiring →
        r.binding.any (fun b => b.address == x.address) = true →
        t.slots[i] = { gen := if s.gen i < 1023 then s.gen i + 1 else 1, record := none } ∧
        (t.ntu.held[NoticeKind.retireDone]).isSome = true ∧ (∀ e ∈ t.link.setpoints, e.slot ≠ i)) ∧
      (∀ i, s.record? i = none → t.slots[i] = s.slots[i]) ∧
      (∀ i r, s.record? i = some r → (r.body.kind ≠ .pv ∨ r.lifecycle ≠ .retiring ∨
          r.binding.any (fun b => b.address == x.address) = false) →
        (∀ e : SetpointEntry, e.slot = i → (e ∈ t.link.setpoints ↔ e ∈ s.link.setpoints)) ∧
        (∀ e : CommandEntry, e.slot = i → (e ∈ t.link.commands ↔ e ∈ s.link.commands)) ∧
        (∀ g u v p, x.errand = .setpoint i g u v → s.gen i = g → r.body = .pv p →
          r.binding = some { address := x.address, unit := u } →
          t.slots[i] = { gen := s.gen i, record := some { r with
            body := .pv { p with unconfirmed := true } } }) ∧
        ((∀ g u v, x.errand = .setpoint i g u v → r.body.kind = .pv → s.gen i = g →
            r.binding ≠ some { address := x.address, unit := u }) →
          t.slots[i] = s.slots[i])) ∧
      { t with slots := s0.slots, stations := s0.stations, link := s0.link, ntu := s0.ntu,
               scu := s0.scu, gsq := s0.gsq, shu := s0.shu, blu := s0.blu } = s0)

/-! ### Host requests to the Shed Unit and the Genset Sequencer -/

/-- HOLD_ADD raises, and HOLD_DROP lowers, the hold count of each feeder of the mask, within 0 and 15, and
answers with the feeders acted on and the set bits passed over. A raised hold takes the feeder out of the
armed sets and the batch, and back to CLOSED from TRIP_PENDING, which RSQ is handed; that the feeders are
worked, and handed on, in ascending slot order is the model's choice (assumption log 42). Set bits that
name no feeder are passed over (R116 says so; the example of R3 does not: assumption log 31). -/
def Obligations.HoldsCountAndDisarm : Prop :=
  ∀ (mask : BitVec 64) (s : State) (named : List SlotIx),
    named = (List.finRange 64).filter (fun i : SlotIx => mask.getLsbD i && (s.feeder? i).isSome) →
    (s.serves (.holdAdd mask) →
      ∃ t : State, exec (.holdAdd mask) s = .next (t.respond (.holdAdd mask) .ok
          (u8 named.length ++
            u8 (((List.finRange 64).filter (fun i : SlotIx => mask.getLsbD i)).length - named.length))) ∧
        (∀ i : SlotIx, i ∉ named → t.slots[i] = s.slots[i]) ∧
        (∀ (i : SlotIx) (r : Record) (f : Feeder), i ∈ named → s.record? i = some r →
          r.body = .feeder f → t.slots[i] = { gen := s.gen i, record := some { r with
            body := .feeder { f with
              hold := if 15 ≤ f.hold then f.hold else f.hold + 1,
              state := if f.state = .tripPending then .closed else f.state,
              cause := if f.state = .tripPending then none else f.cause,
              lastChange := if f.state = .tripPending then s.timeS else f.lastChange } } }) ∧
        (∀ k : StageIx, t.shu.armed[k] = s.shu.armed[k].filter (fun i => !named.contains i)) ∧
        t.shu.batch = s.shu.batch.filter (fun i => !named.contains i) ∧
        { t.shu with armed := s.shu.armed, batch := s.shu.batch } = s.shu ∧
        t.blu.reevaluation =
          (s.blu.reevaluation || (!s.shu.batch.isEmpty && t.shu.batch.isEmpty)) ∧
        { t.blu with reevaluation := s.blu.reevaluation } = s.blu ∧
        t.mail = s.mail ++ (named.filter (fun i =>
          (s.feeder? i).any (fun f => f.state == .tripPending))).map .feederClosed ∧
        ((∀ (i : SlotIx) (f : Feeder), i ∈ named → s.feeder? i = some f → f.hold < 15) → t.ntu = s.ntu) ∧
        (∀ full : List SlotIx, full = named.filter (fun i =>
            (s.feeder? i).any (fun f => decide (15 ≤ f.hold))) → full ≠ [] →
          t.ntu.held[NoticeKind.holdSaturated] = some
            { detail := full.getLast?.map Fin.val,
              count := min 255 ((s.ntu.held[NoticeKind.holdSaturated]).elim 0 Notice.count +
                full.length) }) ∧
        (∀ k : NoticeIx, k ≠ NoticeKind.holdSaturated → t.ntu.held[k] = s.ntu.held[k]) ∧
        { t with slots := s.slots, shu := s.shu, blu := s.blu, ntu := s.ntu, mail := s.mail } = s) ∧
    (s.serves (.holdDrop mask) →
      ∃ t : State, exec (.holdDrop mask) s = .next (t.respond (.holdDrop mask) .ok
          (u8 named.length ++
            u8 (((List.finRange 64).filter (fun i : SlotIx => mask.getLsbD i)).length - named.length))) ∧
        (∀ i : SlotIx, i ∉ named → t.slots[i] = s.slots[i]) ∧
        (∀ (i : SlotIx) (r : Record) (f : Feeder), i ∈ named → s.record? i = some r →
          r.body = .feeder f → t.slots[i] = { gen := s.gen i, record := some { r with
            body := .feeder { f with hold := f.hold - 1 } } }) ∧
        ((∀ (i : SlotIx) (f : Feeder), i ∈ named → s.feeder? i = some f → 0 < f.hold) → t.ntu = s.ntu) ∧
        (∀ full : List SlotIx, full = named.filter (fun i =>
            (s.feeder? i).any (fun f => decide (f.hold = 0))) → full ≠ [] →
          t.ntu.held[NoticeKind.holdSaturated] = some
            { detail := full.getLast?.map Fin.val,
              count := min 255 ((s.ntu.held[NoticeKind.holdSaturated]).elim 0 Notice.count +
                full.length) }) ∧
        (∀ k : NoticeIx, k ≠ NoticeKind.holdSaturated → t.ntu.held[k] = s.ntu.held[k]) ∧
        { t with slots := s.slots, ntu := s.ntu } = s)

/-- TRIP, RECLOSE and CLEAR_FAULT of a feeder: in which states each is refused, and otherwise what it does:
the trip pulse with cause HOST, the close window with the feeder CLOSE_PENDING (or, with CLOSE_DELAY 0, the
window started), the state derived anew. The confirm deadline follows the status line; an emptied batch asks
for a re-evaluation; a feeder that becomes CLOSED is handed to RSQ. -/
def Obligations.FeederRequestsAct : Prop :=
  ∀ (h : Handle) (s : State) (i : SlotIx) (f : Feeder), s.resolve h = some i → s.feeder? i = some f →
    (s.serves (.trip h) →
      (s.blu.grid = .survey → exec (.trip h) s = .next (s.refuse (.trip h) .state)) ∧
      (s.blu.grid ≠ .survey → (f.state = .opening ∨ f.state = .tripped) →
        exec (.trip h) s = .next (s.respond (.trip h) .ok [])) ∧
      (s.blu.grid ≠ .survey → f.state ≠ .opening → f.state ≠ .tripped →
        ∃ t : State, exec (.trip h) s = .next (t.respond (.trip h) .ok []) ∧ s.pulsed t i f .host ∧
          s.onlyBody t i false ∧ s.onlyDriven t ∧
          (∀ l, l ≠ f.tripLine → f.closeLine ≠ some l → t.lines[l] = s.lines[l]) ∧
          t.scu = s.confirming i f ∧
          { t.shu with armed := s.shu.armed, batch := s.shu.batch } = s.shu ∧
          (∀ k : StageIx, t.shu.armed[k] = s.shu.armed[k].filter (fun j => j != i)) ∧
          t.shu.batch = s.shu.batch.filter (fun j => j != i) ∧
          t.blu = { s.blu with reevaluation := s.blu.reevaluation ||
            (s.shu.batch.contains i && (s.shu.batch.filter (fun j => j != i)).isEmpty) } ∧
          { t with slots := s.slots, lines := s.lines, scu := s.scu, shu := s.shu, blu := s.blu } = s)) ∧
    (s.serves (.reclose h) →
      ((s.blu.grid ∉ [.normal, .short] ∨ f.state ≠ .tripped ∨ f.closeLine = none) →
        exec (.reclose h) s = .next (s.refuse (.reclose h) .state)) ∧
      (∀ l, s.blu.grid ∈ [.normal, .short] → f.state = .tripped → f.closeLine = some l →
        ((s.lines[f.tripLine].pulse.isSome = true ∨ s.lines[l].window.isSome = true) →
          exec (.reclose h) s = .next (s.refuse (.reclose h) .busy)) ∧
        (s.lines[f.tripLine].pulse = none → s.lines[l].window = none →
          ∃ t : State, exec (.reclose h) s = .next (t.respond (.reclose h) .ok []) ∧
            s.closeBegun t i f l))) ∧
    (s.serves (.clearFault h) →
      (f.state ≠ .breakerFail → exec (.clearFault h) s = .next (s.refuse (.clearFault h) .state)) ∧
      (f.state = .breakerFail →
        ∃ t : State, exec (.clearFault h) s = .next (t.respond (.clearFault h) .ok []) ∧
          s.onlyBody t i false ∧
          t.feeder? i = some (if f.statusLine.any (fun l => !s.filtered l)
            then { f with state := .tripped, cause := some .unknown, lastChange := s.timeS }
            else { f with state := .closed, cause := none, lastChange := s.timeS }) ∧
          t.mail = s.mail ++ (if f.statusLine.any (fun l => !s.filtered l) = true
            then [] else [.feederClosed i]) ∧
          { t with slots := s.slots, mail := s.mail } = s))

/-- START, STOP and CLEAR_LOCKOUT of a genset: in which states each is refused, and otherwise the state it
enters, with its run output and timer, while nothing else calls for a start; a genset started that comes to
SYNCING with a permit line on a bus that is not live joins the waiters and tries a grant, and a genset in
SYNCING that STOP takes is off them (the STOP of the permit's holder is stated with the permit). A departure
from ONLINE hands RSQ nothing (assumption log 24). The timer is set to the parameter of the state, or
cancelled, and no other deadline differs. A STOP from ONLINE queues an UNLOAD, which the arbiter may choose
at once on a free line (the time a frame takes: assumption log 10). -/
def Obligations.GensetRequestsAct : Prop :=
  ∀ (h : Handle) (s : State) (i : SlotIx) (g : Genset), s.resolve h = some i → s.genset? i = some g →
    (s.serves (.start h) →
      ((s.blu.grid = .dark ∨ s.lifecycle? i = some .retiring ∨ g.state = .lockout ∨ g.fault = true) →
        exec (.start h) s = .next (s.refuse (.start h) .state)) ∧
      (s.blu.grid ≠ .dark → s.lifecycle? i ≠ some .retiring → g.fault = false →
        (g.state = .stopped → s.param .startLimit ≤ s.placesUsed →
          exec (.start h) s = .next (s.refuse (.start h) .busy)) ∧
        (g.state ∈ [.cranking, .resting, .runUp, .syncing, .online] →
          exec (.start h) s = .next (s.respond (.start h) .ok [])) ∧
        (s.quiet →
          ((g.state = .stopped ∧ s.placesUsed < s.param .startLimit) ∨ g.state = .unloading ∨
            g.state = .cooldown) →
          ∃ t : State, exec (.start h) s = .next (t.respond (.start h) .ok []) ∧
            s.started t i g))) ∧
    (s.serves (.stop h) →
      (g.state = .online → (∀ j x, j ≠ i → s.genset? j = some x → x.state ≠ .online) →
        exec (.stop h) s = .next (s.refuse (.stop h) .needed)) ∧
      (g.state ∈ [.unloading, .cooldown, .lockout] →
        exec (.stop h) s = .next (s.respond (.stop h) .ok [])) ∧
      (g.state = .stopped → exec (.stop h) s = .next
        ({ s with gsq := { s.gsq with waitList := s.gsq.waitList.filter (fun j => j != i) } }.respond
          (.stop h) .ok [])) ∧
      (g.state = .online → (∃ j x, j ≠ i ∧ s.genset? j = some x ∧ x.state = .online) →
        s.lifecycle? i ≠ some .retiring → s.quiet →
        ∃ t : State, exec (.stop h) s = .next (t.respond (.stop h) .ok []) ∧
          s.sequenced t i { g with state := .unloading, onlineSince := none } ∧
          t.blu.reevaluation = true ∧ t.blu.minRunMark[i] = false ∧ s.onlyLine t g.runLine ∧
          (∀ r, s.record? i = some r → s.unloads t i r g) ∧
          ((∃ e ∈ t.link.commands, e.slot = i) ∨
            (∃ x gen u, t.link.transaction = some x ∧ x.errand = .unload i gen u)) ∧
          { t with slots := s.slots, lines := s.lines, scu := s.scu, blu := s.blu,
                   link := s.link, stations := s.stations } = s) ∧
      (g.state ∈ [.cranking, .resting, .runUp, .syncing] → s.lifecycle? i ≠ some .retiring →
        s.quiet → s.gsq.permitHolder ≠ some i →
        ∃ t : State, exec (.stop h) s = .next (t.respond (.stop h) .ok []) ∧
          s.sequenced t i { g with state := .stopped, attempts := 0 } ∧ s.onlyBody t i false ∧
          s.onlyLine t g.runLine ∧
          t.gsq = (if g.state = .syncing
            then { s.gsq with waiters := s.gsq.waiters.filter (fun j => j != i) } else s.gsq) ∧
          { t with slots := s.slots, lines := s.lines, scu := s.scu, gsq := s.gsq } = s)) ∧
    (s.serves (.clearLockout h) →
      (g.state ≠ .lockout → exec (.clearLockout h) s = .next (s.refuse (.clearLockout h) .state)) ∧
      (g.state = .lockout → s.lifecycle? i ≠ some .retiring → s.quiet →
        ∃ t : State, exec (.clearLockout h) s = .next (t.respond (.clearLockout h) .ok []) ∧
          s.sequenced t i { g with state := .stopped, attempts := 0 } ∧ s.onlyBody t i false ∧
          s.onlyLine t g.runLine ∧
          { t with slots := s.slots, lines := s.lines, scu := s.scu } = s))

/-! ### Black start plans -/

/-- PLAN_SET: a length above 32 is refused with OUT_OF_RANGE, and another length while the plan is RUNNING or
PAUSED with PLAN_RUNNING; otherwise both values take effect at once and nothing else changes; the
auto-run flag of the moment is the one a dark settle expiry uses. -/
def Obligations.PlanSetTakesBothValues : Prop :=
  (∀ (length autoRun : Nat) (s : State) (c : Instr),
    c = .planSet length autoRun → autoRun ≤ 1 → s.serves c →
    (32 < length → exec c s = .next (s.refuse c .outOfRange)) ∧
    (length ≤ 32 → (s.rsq.state = .running ∨ s.rsq.state = .paused) → length ≠ s.rsq.length →
      exec c s = .next (s.refuse c .planRunning)) ∧
    (length ≤ 32 → ((s.rsq.state ≠ .running ∧ s.rsq.state ≠ .paused) ∨ length = s.rsq.length) →
      exec c s = .next ({ s with rsq := { s.rsq with
        length := length, autoRun := autoRun == 1 } }.respond c .ok []))) ∧
  (∀ s s0 : State, s.expires .darkSettle s0 → s0.rsq.autoRun = false →
    exec .darkSettleExpiry s = .next s0)

/-- PLAN_WRITE_STEP: the checks in their order, and an accepted write, which replaces the contents of the
position, sets its status to PENDING and, while the plan is RUNNING or PAUSED, its written-since-start
mark, and changes nothing else. A START_GENSET value above 1 is out of range (assumption log 36); the
other fields of the empty form and the value of CLOSE_FEEDER are not checked (assumption log 43). -/
def Obligations.PlanWriteStepChecksInOrder : Prop :=
  ∀ (position kind : Nat) (target : Option Handle) (value timeout onFailure : Nat) (s : State)
      (c : Instr) (acts busy outOfRange : Bool) (k : Option Kind),
    c = .planWriteStep position kind target value timeout onFailure → s.serves c →
    acts = decide (1 ≤ kind ∧ kind ≤ 3) →
    busy = decide (s.rsq.state = .running ∨ s.rsq.state = .paused) →
    k = [none, some .genset, some .feeder, some .pv, none, none][kind]?.join →
    outOfRange = decide (31 < position ∨ 5 < kind ∨ (kind ≠ 0 ∧ (600 < timeout ∨
      onFailure = 0 ∨ 2 < onFailure ∨ (kind = 1 ∧ 1 < value) ∨ (kind = 3 ∧ 5000 < value) ∨
      (kind = 4 ∧ 60000 < value) ∨ (kind = 5 ∧ 20000 < value)))) →
    (outOfRange = true → exec c s = .next (s.refuse c .outOfRange)) ∧
    (outOfRange = false →
      (kind ≠ 0 → target.isSome ≠ acts → exec c s = .next (s.refuse c .malformed)) ∧
      ((kind = 0 ∨ target.isSome = acts) →
        (busy = true → (position ≤ s.rsq.cursor.val ∨ (kind = 0 ∧ position < s.rsq.length)) →
          exec c s = .next (s.refuse c .planRunning)) ∧
        ((busy = false ∨ (s.rsq.cursor.val < position ∧ (kind ≠ 0 ∨ s.rsq.length ≤ position))) →
          (∀ h, acts = true → target = some h → s.resolve h = none →
            exec c s = .next (s.refuse c .badHandle)) ∧
          (∀ h i r, acts = true → target = some h → s.resolve h = some i → s.record? i = some r →
            (some r.body.kind ≠ k → exec c s = .next (s.refuse c .badKind)) ∧
            (some r.body.kind = k → r.lifecycle = .retiring →
              exec c s = .next (s.refuse c .planReference))) ∧
          ((acts = true → ∀ h, target = some h → ∃ i r, s.resolve h = some i ∧
              s.record? i = some r ∧ some r.body.kind = k ∧ r.lifecycle ≠ .retiring) →
            ∃ (p : PosIx) (x : Option PlanStep), p.val = position ∧
              exec c s = .next ({ s with rsq := { s.rsq with
                steps := s.rsq.steps.set p x, status := s.rsq.status.set p .pending,
                written := if busy then s.rsq.written.set p true else s.rsq.written } }.respond
                  c .ok []) ∧
              (kind = 0 → x = none) ∧
              (kind ≠ 0 → ∃ (a : StepAction) (f : OnFailure),
                x = some { action := a, timeout := timeout, onFailure := f } ∧ f.code = onFailure ∧
                (∀ h, kind = 1 → target = some h → a = .startGenset h (value == 1)) ∧
                (∀ h, kind = 2 → target = some h → a = .closeFeeder h) ∧
                (∀ h, kind = 3 → target = some h → a = .releasePv h value) ∧
                (kind = 4 → a = .settle value) ∧ (kind = 5 → a = .gateReserve value))))))

/-- The plan check, and PLAN_RUN, which makes it: refused outside DARK, while the plan is RUNNING or PAUSED,
and with BAD_PLAN and the first failing position; otherwise the plan starts. The first failing position
is the lowest below the length that holds no step passing the step check, or that holds the first
START_GENSET step with its dead-bus flag clear (assumption log 30). PLAN_ABORT ends a plan that is
RUNNING or PAUSED in FAILED and removes the plan caps. -/
def Obligations.PlanRunAndAbort : Prop :=
  ((∀ s : State, s.planPasses = true ↔
     1 ≤ s.rsq.length ∧
     (∀ p : PosIx, p.val < s.rsq.length → ∃ x, s.rsq.steps[p] = some x ∧
       (∀ h k, x.action.target = some h → x.action.kind = some k → ∃ i r, s.resolve h = some i ∧
         s.record? i = some r ∧ r.body.kind = k ∧ r.lifecycle ≠ .retiring) ∧
       (∀ h, x.action = .startGenset h true →
         ∃ i g, s.resolve h = some i ∧ s.genset? i = some g ∧ g.permitLine.isSome = true)) ∧
     (∀ (p : PosIx) (h : Handle) (dead : Bool) (x : PlanStep), p.val < s.rsq.length →
       s.rsq.steps[p] = some x → x.action = .startGenset h dead →
       (∀ (q : PosIx) (y : PlanStep) (h' : Handle) (d : Bool), q < p → s.rsq.steps[q] = some y →
         y.action ≠ .startGenset h' d) → dead = true)) ∧
   (∀ s : State, s.serves .planRun →
     (s.blu.grid ≠ .dark → exec .planRun s = .next (s.refuse .planRun .state)) ∧
     (s.blu.grid = .dark → (s.rsq.state = .running ∨ s.rsq.state = .paused) →
       exec .planRun s = .next (s.refuse .planRun .planRunning)) ∧
     (s.blu.grid = .dark → s.rsq.state ≠ .running → s.rsq.state ≠ .paused →
       (s.rsq.length = 0 → exec .planRun s = .next (s.respond .planRun .badPlan [0xFF])) ∧
       (∀ p, s.firstFailing = some p →
         exec .planRun s = .next (s.respond .planRun .badPlan [BitVec.ofNat 8 p.val])) ∧
       (s.planPasses = true →
         ∃ t : State, exec .planRun s = .next (t.respond .planRun .ok []) ∧
           t.rsq = { s.rsq with
             state := if (∃ k : StageIx, s.rsq.stageView[k] = true) then .paused else .running,
             cursor := 0, status := Vector.replicate 32 .pending,
             written := Vector.replicate 32 false, orderGiven := false, closeMade := false } ∧
           t.mail = s.mail ++ [.planStart] ∧
           ((∀ k : StageIx, s.rsq.stageView[k] = false) → t.scu = s.scu) ∧
           ((∃ k : StageIx, s.rsq.stageView[k] = true) →
             t.scu = ((s.cancel .stepTimeout).cancel .stepSettle).scu) ∧
           { t with rsq := s.rsq, mail := s.mail, scu := s.scu } = s))) ∧
   (∀ s : State, s.serves .planAbort →
     (s.rsq.state ≠ .running → s.rsq.state ≠ .paused →
       exec .planAbort s = .next (s.refuse .planAbort .state)) ∧
     ((s.rsq.state = .running ∨ s.rsq.state = .paused) →
       ∃ t : State, exec .planAbort s = .next (t.respond .planAbort .ok []) ∧
         t.rsq = { s.rsq with
           state := .failed,
           status := if s.rsq.status[s.rsq.cursor] = .active
             then s.rsq.status.set s.rsq.cursor .failed else s.rsq.status } ∧
         t.scu = ((s.cancel .stepTimeout).cancel .stepSettle).scu ∧
         s.capsDropped t ∧
         t.mail = s.mail ++ [.planEnd false] ∧
         { t with rsq := s.rsq, mail := s.mail, scu := s.scu, slots := s.slots } = s))) ∧
  (∀ s : State,
     (∀ p : PosIx, s.firstFailing = some p ↔
       s.positionFails p ∧ ∀ q : PosIx, q < p → ¬ s.positionFails q) ∧
     (s.firstFailing = none ↔ ∀ p : PosIx, ¬ s.positionFails p))

/-- A step of the plan ends DONE or by a failure at the event it waits for: its genset ONLINE or in LOCKOUT,
its feeder CLOSED or in BREAKER_FAIL, its timeout, its settle. The status is kept, and the cursor moves
on to a next position or the plan ends there. A plan RUNNING in RESTORING begins the step at the new
position in the same event, and the steps after it while each ends at once; a plan PAUSED, or a grid
state that BLU no longer holds at RESTORING (assumption log 16), begins none. A failure cancels the step
settle, and with it the resume wait of a PAUSED plan (assumption log 17). A plan that becomes COMPLETE
has no step settle, nor a resume wait, running (assumption log 54). With no event for the active step the
event has no effect. -/
def Obligations.StepEventsEndTheActiveStep : Prop :=
  (∀ (c : Instr) (s s0 : State) (p : PosIx) (x : PlanStep) (done : Bool),
    ((∃ i, c = .rsqGensetOnline ∧ done = true ∧ s.takes Message.gensetOnline? i s0 ∧
        ∃ h d, x.action = .startGenset h d ∧ s0.resolve h = some i) ∨
      (∃ i, c = .rsqGensetLockout ∧ done = false ∧ s.takes Message.gensetLockout? i s0 ∧
        ∃ h d, x.action = .startGenset h d ∧ s0.resolve h = some i) ∨
      (∃ i, c = .rsqFeederClosed ∧ done = true ∧ s.takes Message.feederClosed? i s0 ∧
        ∃ h, x.action = .closeFeeder h ∧ s0.resolve h = some i) ∨
      (∃ i, c = .rsqFeederBreakerFail ∧ done = false ∧ s.takes Message.feederFail? i s0 ∧
        ∃ h, x.action = .closeFeeder h ∧ s0.resolve h = some i) ∨
      (c = .stepTimeoutExpiry ∧ done = false ∧ s.expires .stepTimeout s0) ∨
      (c = .stepSettleExpiry ∧ done = true ∧ s.expires .stepSettle s0 ∧ s.rsq.state = .running ∧
        ∃ ms, x.action = .settle ms)) →
    s.active x → s.rsq.cursor = p → s.planFilled →
    ∃ t, exec c s = .next t ∧ s0.stepFinished t p x done) ∧
  (∀ (i : SlotIx) (s s0 : State), s.takes Message.gensetOnline? i s0 →
    (∀ x h d, s.active x → x.action = .startGenset h d → s.resolve h ≠ some i) →
    exec .rsqGensetOnline s = .next s0) ∧
  (∀ (i : SlotIx) (s s0 : State), s.takes Message.gensetLockout? i s0 →
    (∀ x h d, s.active x → x.action = .startGenset h d → s.resolve h ≠ some i) →
    exec .rsqGensetLockout s = .next s0) ∧
  (∀ (i : SlotIx) (s s0 : State), s.takes Message.feederClosed? i s0 →
    (∀ x h, s.active x → x.action = .closeFeeder h → s.resolve h ≠ some i) →
    exec .rsqFeederClosed s = .next s0) ∧
  (∀ (i : SlotIx) (s s0 : State), s.takes Message.feederFail? i s0 →
    (∀ x h, s.active x → x.action = .closeFeeder h → s.resolve h ≠ some i) →
    exec .rsqFeederBreakerFail s = .next s0) ∧
  (∀ s s0 : State, s.expires .stepTimeout s0 → (∀ x, ¬ s.active x) →
    exec .stepTimeoutExpiry s = .next s0) ∧
  (∀ s s0 : State, s.expires .stepSettle s0 → s.rsq.state ≠ .paused →
    (∀ x ms, s.active x → x.action ≠ .settle ms) → exec .stepSettleExpiry s = .next s0)

/-- The stage view and the pause of the plan: a stage raise joins the view and pauses a running plan, both
step deadlines cancelled; the clear that empties the view in PAUSED sets the resume wait; its expiry
returns the plan to RUNNING with the same cursor, sets the timeout of an active step anew, gives a start
order not yet given (in RESTORING: assumption log 16), starts a SETTLE step's timing anew, and activates
a PENDING step. The step settle and the resume wait are one deadline (assumption log 17). A dark
declaration fails a running or paused plan, the ACTIVE step at its cursor with it, and in every case sets
the dark settle, due DARK_SETTLE after time base S as RSQ takes the declaration (that it counts from the
taking is the model's reading: assumption log 57), whose expiry starts the plan or notices the failing
position (assumption log 30); with the auto-run flag clear, the grid state not DARK, the live view set,
or the plan RUNNING or PAUSED, the expiry has no effect. -/
def Obligations.PlanPauseResumeAndDark : Prop :=
  ((∀ (s s0 : State) (k : StageIx), s.takes Message.stageRaiseRsq? k s0 →
     ∃ t, exec .planPause s = .next t ∧
       t.rsq = { s.rsq with
         stageView := s.rsq.stageView.set k true,
         state := if s.rsq.state = .running then .paused else s.rsq.state } ∧
       (s.rsq.state = .running → t.scu = ((s.cancel .stepTimeout).cancel .stepSettle).scu) ∧
       (s.rsq.state = .paused → t.scu = (s.cancel .stepSettle).scu) ∧
       (s.rsq.state ≠ .running → s.rsq.state ≠ .paused → t.scu = s.scu) ∧
       { t with rsq := s0.rsq, scu := s0.scu } = s0) ∧
   (∀ (s s0 : State) (k : StageIx), s.takes Message.stageClearRsq? k s0 →
     ∃ t, exec .rsqStageClear s = .next t ∧
       t.rsq = { s.rsq with stageView := s.rsq.stageView.set k false } ∧
       (s.rsq.state = .paused → s.rsq.stageView[k] = true →
         (∀ j, j ≠ k → s.rsq.stageView[j] = false) →
         t = ({ s0 with rsq := t.rsq } : State).setDeadline .stepSettle (s.param .resumeSettle * 1000)) ∧
       ((s.rsq.state ≠ .paused ∨ ∃ j, j ≠ k ∧ s.rsq.stageView[j] = true) → t.scu = s.scu) ∧
       { t with rsq := s0.rsq, scu := s0.scu } = s0) ∧
   (∀ (s s0 u : State) (x : PlanStep), s.expires .stepSettle s0 → s.rsq.state = .paused →
     s.rsq.steps[s.rsq.cursor] = some x →
     ((s.rsq.status[s.rsq.cursor] = .active →
         u = (if x.timeout = 0 then { s0 with rsq := { s.rsq with state := .running } }
           else ({ s0 with rsq := { s.rsq with state := .running } } : State).setDeadline .stepTimeout
             (x.timeout * 1000)) →
         ((x.action.kind = some .feeder ∨ x.action.kind = some .pv ∨ ∃ kw, x.action = .gateReserve kw) →
           exec .resumeWaitExpiry s = .next u) ∧
         (∀ ms, x.action = .settle ms →
           ∃ t, exec .resumeWaitExpiry s = .next t ∧ u.settleBegins t ms) ∧
         (∀ h d i g, x.action = .startGenset h d → s.resolve h = some i → s.genset? i = some g →
           ((s.blu.grid ≠ .restoring ∨ s.rsq.orderGiven = true ∨ (d = false ∧ s.rsq.live = false)) →
             exec .resumeWaitExpiry s = .next u) ∧
           (s.blu.grid = .restoring → s.rsq.orderGiven = false → (d = true ∨ s.rsq.live = true) →
             ∃ t, exec .resumeWaitExpiry s = .next t ∧ u.ordered t i g))) ∧
       (s.rsq.status[s.rsq.cursor] = .pending → s.planFilled →
         ∃ t, exec .resumeWaitExpiry s = .next t ∧
           PlanWorks { s0 with rsq := { s.rsq with state := .running } } t) ∧
       (s.rsq.status[s.rsq.cursor] ≠ .active → s.rsq.status[s.rsq.cursor] ≠ .pending →
         exec .resumeWaitExpiry s = .next { s0 with rsq := { s.rsq with state := .running } }))) ∧
   (∀ s : State, (s.rsq.state ≠ .paused → exec .resumeWaitExpiry s = .next s) ∧
     (s.rsq.state = .paused → exec .stepSettleExpiry s = .next s)) ∧
   (∀ (s s0 : State), s.takes Message.darkRsq? () s0 →
     ∃ t, exec .rsqDarkDeclaration s = .next t ∧
       (t.rsq.stageView = Vector.replicate 4 false ∧ t.rsq.live = false) ∧
       t.isSet .darkSettle = true ∧
       ((s.rsq.state = .running ∨ s.rsq.state = .paused) →
         t.rsq.state = .failed ∧ s.noticedAlone t NoticeKind.planStepFailed (some s.rsq.cursor.val) ∧
         t.mail = s0.mail ++ [.planEnd false] ∧ s0.capsDropped t ∧
         t.isSet .stepTimeout = false ∧ t.isSet .stepSettle = false ∧
         (∀ k, k ≠ .stepTimeout → k ≠ .stepSettle → k ≠ .darkSettle → s.keepsDeadline t k) ∧
         { t with rsq := s0.rsq, scu := s0.scu, ntu := s0.ntu, slots := s0.slots,
                  mail := s0.mail } = s0) ∧
       (s.rsq.state ≠ .running → s.rsq.state ≠ .paused →
         t.rsq.state = s.rsq.state ∧ { t with rsq := s0.rsq, scu := s0.scu } = s0)) ∧
   (∀ (s s0 : State), s.expires .darkSettle s0 →
      (s.rsq.autoRun = false ∨ s.blu.grid ≠ .dark ∨ s.rsq.live = true ∨ s.rsq.state = .running ∨
        s.rsq.state = .paused) → exec .darkSettleExpiry s = .next s0) ∧
    (∀ (s s0 : State), s.expires .darkSettle s0 → s.rsq.autoRun = true → s.blu.grid = .dark →
     s.rsq.live = false → s.rsq.state ≠ .running → s.rsq.state ≠ .paused →
     (s0.planPasses = false →
       exec .darkSettleExpiry s =
         .next (s0.raise NoticeKind.planStepFailed (s0.firstFailing.map Fin.val))) ∧
     (s0.planPasses = true → ∃ t, exec .darkSettleExpiry s = .next t ∧
       t.rsq = { s.rsq with
         state := if (∃ k : StageIx, s.rsq.stageView[k] = true) then .paused else .running,
         cursor := 0, status := Vector.replicate 32 .pending,
         written := Vector.replicate 32 false, orderGiven := false, closeMade := false } ∧
       t.mail = s0.mail ++ [.planStart] ∧
       ((∀ k : StageIx, s.rsq.stageView[k] = false) → t.scu = s0.scu) ∧
       ((∃ k : StageIx, s.rsq.stageView[k] = true) →
         t.scu = ((s0.cancel .stepTimeout).cancel .stepSettle).scu) ∧
       { t with rsq := s0.rsq, mail := s0.mail, scu := s0.scu } = s0))) ∧
  (∀ s s0 : State, s.takes Message.darkRsq? () s0 →
     ((s.rsq.state ≠ .running → s.rsq.state ≠ .paused →
       exec .rsqDarkDeclaration s = .next (({ s0 with rsq := { s.rsq with
         live := false, stageView := Vector.replicate 4 false } } : State).setDeadline .darkSettle
           (s.param .darkSettle * 1000))) ∧
     ((s.rsq.state = .running ∨ s.rsq.state = .paused) →
       ∃ t, exec .rsqDarkDeclaration s = .next t ∧
         t.rsq = { s.rsq with
           live := false, stageView := Vector.replicate 4 false, state := .failed,
           status := if s.rsq.status[s.rsq.cursor] = .active
             then s.rsq.status.set s.rsq.cursor .failed else s.rsq.status } ∧
         (s.param .darkSettle ≠ 0 →
           (⟨.darkSettle, s.timeS + BitVec.ofNat 32 (s.param .darkSettle * 1000), none⟩ : Deadline) ∈
             t.scu.entries ∧
           ∀ d ∈ t.scu.entries, d.key = .darkSettle →
             d.due = s.timeS + BitVec.ofNat 32 (s.param .darkSettle * 1000)) ∧
         (s.param .darkSettle = 0 → DeadlineKey.darkSettle ∈ t.scu.delivered))))

/-- The announcements and hand-overs the plan takes: the entry to RESTORING begins the step at the cursor, of
whatever kind, and the steps after it while each ends at once; a change from DARK to a live state
overtakes the plan, a departure from RESTORING removes the caps, and any other change has no effect. A
LIVE declaration sets the live view, gives a start order that waited for it and starts a settle. A
frequency outside the band cancels the settle of a SETTLE step and one inside it starts it. An evaluation
handed over completes a GATE_RESERVE step at or above its figure and a RELEASE_PV step whose plant it
gives, and lets a CLOSE_FEEDER step ask for its close. What RSQ does only in RESTORING it judges by the
grid state BLU holds (assumption log 16). A plan that becomes COMPLETE has no step settle, nor a resume
wait, running (assumption log 54). -/
def Obligations.PlanTakesGridLiveAndHeadroom : Prop :=
  (∀ (s s0 : State) (old new : GridState), s.takes Message.gridRsq? (old, new) s0 →
    (new = .restoring → old ≠ .restoring → s.rsq.status[s.rsq.cursor] = .pending → s.planFilled →
      ∃ t, exec .rsqGridStateChange s = .next t ∧ PlanWorks s0 t) ∧
    (new = .restoring → old ≠ .restoring → s.rsq.status[s.rsq.cursor] ≠ .pending →
      exec .rsqGridStateChange s = .next s0) ∧
    (old = .dark → new ∈ [.normal, .short, .emergency] →
      (s.rsq.state = .running ∨ s.rsq.state = .paused) →
      ∃ t, exec .rsqGridStateChange s = .next t ∧
        t.rsq = { s.rsq with
          state := .failed, status := s.rsq.status.set s.rsq.cursor .failed } ∧
        s.noticedAlone t NoticeKind.planStepFailed (some s.rsq.cursor.val) ∧
        t.scu = ((s.cancel .stepTimeout).cancel .stepSettle).scu ∧ s0.capsDropped t ∧
        t.mail = s0.mail ++ [.planEnd false] ∧
        { t with rsq := s0.rsq, ntu := s0.ntu, scu := s0.scu, slots := s0.slots,
                 mail := s0.mail } = s0) ∧
    (old = .restoring → new ≠ .restoring → ∃ t, exec .rsqGridStateChange s = .next t ∧
      s0.capsDropped t ∧ { t with slots := s0.slots } = s0) ∧
    (old ≠ .restoring → new ≠ .restoring →
      (old ≠ .dark ∨ new ∉ [.normal, .short, .emergency] ∨
        (s.rsq.state ≠ .running ∧ s.rsq.state ≠ .paused)) →
      exec .rsqGridStateChange s = .next s0)) ∧
  (∀ (s s0 u : State), s.takes Message.liveRsq? () s0 →
    u = { s0 with rsq := { s.rsq with live := true } } →
    ((∀ x, ¬ s.active x) → exec .rsqLiveDeclaration s = .next u) ∧
    (∀ x, s.active x →
      ((s.rsq.state = .paused ∨ x.action.kind = some .feeder ∨ x.action.kind = some .pv ∨
          ∃ kw, x.action = .gateReserve kw) →
        exec .rsqLiveDeclaration s = .next u) ∧
      (∀ ms, s.rsq.state = .running → x.action = .settle ms →
        ∃ t, exec .rsqLiveDeclaration s = .next t ∧ u.settleBegins t ms) ∧
      (∀ h d i g, s.rsq.state = .running → x.action = .startGenset h d → s.resolve h = some i →
        s.genset? i = some g →
        ((s.rsq.orderGiven = true ∨ s.blu.grid ≠ .restoring) →
          exec .rsqLiveDeclaration s = .next u) ∧
        (s.rsq.orderGiven = false → s.blu.grid = .restoring →
          ∃ t, exec .rsqLiveDeclaration s = .next t ∧ u.ordered t i g)))) ∧
  (∀ (s s0 : State) (f : Nat), s.takes Message.frequency? f s0 →
    ((∀ x ms, s.active x → s.rsq.state = .running → x.action ≠ .settle ms) →
      exec .rsqFrequencyUpdate s = .next s0) ∧
    (∀ x ms, s.active x → s.rsq.state = .running → x.action = .settle ms →
      ((f + s.param .liveBand < s.param .nominal ∨ s.param .nominal + s.param .liveBand < f) →
        exec .rsqFrequencyUpdate s = .next (s0.cancel .stepSettle)) ∧
      (s.param .nominal ≤ f + s.param .liveBand → f ≤ s.param .nominal + s.param .liveBand →
        (s.rsq.live = true → s.isSet .stepSettle = false →
          exec .rsqFrequencyUpdate s = .next (s0.setDeadline .stepSettle ms)) ∧
        ((s.rsq.live = false ∨ s.isSet .stepSettle = true) →
          exec .rsqFrequencyUpdate s = .next s0)))) ∧
  (∀ (s s0 : State) (headroom : Int) (caps : List CapResult) (p : PosIx),
    s.takes Message.rsqEvaluation? (headroom, caps) s0 → s.rsq.cursor = p →
    ((∀ x, ¬ s.active x) → exec .rsqEvaluationHandover s = .next s0) ∧
    (∀ x, s.active x → s.planFilled →
      ((x.action.kind = some .genset ∨ ∃ ms, x.action = .settle ms) →
        exec .rsqEvaluationHandover s = .next s0) ∧
      (∀ kw, x.action = .gateReserve kw →
        ((s.rsq.state = .paused ∨ headroom < kw) → exec .rsqEvaluationHandover s = .next s0) ∧
        (s.rsq.state = .running → (kw : Int) ≤ headroom →
          ∃ t, exec .rsqEvaluationHandover s = .next t ∧ s0.stepFinished t p x true)) ∧
      (∀ h cap i, x.action = .releasePv h cap → s.resolve h = some i →
        ((∀ q ∈ caps, q.slot ≠ i) → exec .rsqEvaluationHandover s = .next s0) ∧
        ((∃ q ∈ caps, q.slot = i) →
          ∃ t, exec .rsqEvaluationHandover s = .next t ∧ s0.stepFinished t p x true)) ∧
      (∀ h i f, x.action = .closeFeeder h → s.resolve h = some i → s.feeder? i = some f →
        ((s.rsq.state = .paused ∨ s.blu.grid ≠ .restoring ∨ s.rsq.closeMade = true ∨
            headroom < ((f.measured.getD f.nominal + s.param .recloseMargin : Nat) : Int)) →
          exec .rsqEvaluationHandover s = .next s0) ∧
        (s.rsq.state = .running → s.blu.grid = .restoring → s.rsq.closeMade = false →
          ((f.measured.getD f.nominal + s.param .recloseMargin : Nat) : Int) ≤ headroom →
          (f.state = .closed → ∃ t, exec .rsqEvaluationHandover s = .next t ∧
            s0.stepFinished t p x true) ∧
          (f.state = .breakerFail ∨ (f.state ≠ .closed ∧ f.closeLine = none) →
            ∃ t, exec .rsqEvaluationHandover s = .next t ∧ s0.stepFinished t p x false) ∧
          (∀ l, f.state = .tripped → f.closeLine = some l → s.lines[f.tripLine].pulse = none →
            s.lines[l].window = none →
            ∃ u, s0.closeBegun u i f l ∧ exec .rsqEvaluationHandover s =
              .next { u with rsq := { s.rsq with closeMade := true } }) ∧
          (f.state ≠ .closed → f.state ≠ .breakerFail →
            (∀ l, f.closeLine = some l → f.state ≠ .tripped ∨
              s.lines[f.tripLine].pulse.isSome = true ∨ s.lines[l].window.isSome = true) →
            f.closeLine.isSome = true → exec .rsqEvaluationHandover s = .next s0)))))

/-! ### The balance computation and the grid state -/

/-- An evaluation, periodic or requested, in the grid states that allow one: the stored results L, H, Rq, A,
Ds and Dh from the gensets and PV plants as they stand, the state step, the effective demands (handed on
once: assumption log 15), the hand-overs to GSQ and SHU, the minimum-run marks, and in NORMAL, where the
state step has just entered it too (assumption log 51), the stop candidate with its delay; no stop candidate
outside NORMAL. Every plant of the PV set has its setpoint in the field link's hands afterwards; while the
line is busy the queue gains exactly the requests of section 4.10, and 0 for a RETIRING plant whose last
acknowledged value is not 0 (an absent one counts as not 0: assumption log 13). In RESTORING, and in no
other state, RSQ is handed the headroom and, for every plant with a plan cap, its setpoint and whether a
request for it was queued. In SURVEY and DARK it has no effect. Outside RESTORING too the hand-overs are
stated exactly and in order. A slot that holds no PV plant is left as it was, a PV record changes in its
setpoint and last sent value alone, the setpoint only of an ACTIVE plant, and while the line is busy no last
sent value and no station changes. -/
def Obligations.EvaluationStoresAndHandsOn : Prop :=
  (∀ (c : Instr) (s s0 : State),
     ((c = .evalPeriodExpiry ∧ s.expires .evaluation s0) ∨
       (c = .reevaluationRequest ∧ s.port.resetHeld = false ∧ s.blu.reevaluation = true ∧
         s0 = { s with blu := { s.blu with reevaluation := false } })) →
     ((s.blu.grid = .survey ∨ s.blu.grid = .dark) → exec c s = .next s0) ∧
     (s.blu.grid ≠ .survey → s.blu.grid ≠ .dark →
       ∃ (t : State) (r : Results) (pg ppv : SlotIx → Nat) (online : SlotIx → Bool) (base : Nat),
         exec c s = .next t ∧ t.blu.results = some r ∧ t.blu.reevaluation = false ∧
         (∀ i, online i = true ↔ ∃ g, s0.genset? i = some g ∧ g.state = .online) ∧
         (∀ i g, s0.genset? i = some g → g.state = .online →
           pg i = if s0.freshSlot i then min (g.output.getD 0) (2 * g.rated) else g.rated) ∧
         (∀ i, online i = false → pg i = 0) ∧
         (∀ i p, s0.pv? i = some p → s0.lifecycle? i = some .active →
           ppv i = min (p.output.getD 0) p.rated) ∧
         (∀ i, (s0.pv? i = none ∨ s0.lifecycle? i ≠ some .active) → ppv i = 0) ∧
         r.load = ((List.finRange 64).map pg).sum + ((List.finRange 64).map ppv).sum ∧
         r.headroom = ((List.finRange 64).map (fun i => if online i
           then (((s0.genset? i).elim 0 Genset.rated : Nat) : Int) - pg i else 0)).sum ∧
         r.required = s0.param .reserveBase +
           (s0.param .cloudFactor * ((List.finRange 64).map ppv).sum + 99) / 100 ∧
         base = (if (∀ i, online i = false) then 0
           else r.load - (((List.finRange 64).map (fun i => if online i
             then (s0.genset? i).elim 0 Genset.minLoad else 0)).sum + s0.param .loadMargin)) ∧
         (s0.bus.frequency ≤ s0.param .ofStart → r.allowance = base) ∧
         (s0.param .ofStart < s0.bus.frequency → s0.bus.frequency < s0.param .ofFull →
           r.allowance = min base (((List.finRange 64).map ppv).sum *
             (s0.param .ofFull - s0.bus.frequency) / (s0.param .ofFull - s0.param .ofStart))) ∧
         (s0.param .ofStart < s0.bus.frequency → s0.param .ofFull ≤ s0.bus.frequency →
           r.allowance = 0) ∧
         r.startDemand = ((r.required : Int) - r.headroom).toNat ∧
         r.shedDemand = ((s0.param .emergReserve : Int) - r.headroom).toNat ∧
         t.blu.grid = (match s.blu.grid with
           | .normal => if (∃ k : StageIx, s.bus.raised[k] = true) ∨ 0 < r.shedDemand then .emergency
             else if 0 < r.startDemand then .short else .normal
           | .short => if (∃ k : StageIx, s.bus.raised[k] = true) ∨ 0 < r.shedDemand then .emergency
             else if (r.required : Int) - r.headroom ≤ -(s.param .stateHyst : Int) then .normal
             else .short
           | .emergency => if (∀ k : StageIx, s.bus.raised[k] = false) ∧
               (s.param .emergReserve : Int) + s.param .stateHyst ≤ r.headroom
             then (if 0 < r.startDemand then .short else .normal) else .emergency
           | g => g) ∧
         t.blu.effStart =
           (if t.blu.grid = .short ∨ t.blu.grid = .emergency then r.startDemand else 0) ∧
         t.blu.effShed = (if t.blu.grid = .emergency then r.shedDemand else 0) ∧
         { t.blu with
           grid := s0.blu.grid, results := s0.blu.results, effStart := s0.blu.effStart,
           effShed := s0.blu.effShed, stopCandidate := s0.blu.stopCandidate,
           reevaluation := s0.blu.reevaluation, minRunMark := s0.blu.minRunMark } = s0.blu ∧
         (s.blu.grid ≠ .restoring → t.mail = s0.mail ++
           (if t.blu.grid = s.blu.grid then []
             else [.gridGsq s.blu.grid t.blu.grid, .gridShu s.blu.grid t.blu.grid,
               .gridRsq s.blu.grid t.blu.grid]) ++
           [.startDemand t.blu.effStart,
             .shuEvaluation t.blu.effShed r.load r.headroom r.required t.blu.grid]) ∧
         (∀ i, s.pv? i = none → t.slots[i] = s.slots[i]) ∧
         (∀ i q p, s.record? i = some q → q.body = .pv p → ∃ p' : Pv,
           t.slots[i] = { gen := s.gen i, record := some { q with body := .pv p' } } ∧
           p' = { p with setpoint := p'.setpoint, lastSent := p'.lastSent } ∧
           (q.lifecycle ≠ .active → p'.setpoint = p.setpoint) ∧
           (s.link.phase ≠ .free → p'.lastSent = p.lastSent)) ∧
         (s.link.phase ≠ .free → t.stations = s.stations) ∧
         (t.blu.grid ≠ .normal →
           t.blu.stopCandidate = none ∧ t.scu = (s0.cancel .stopDelay).scu) ∧
         ((s.blu.effStart = 0 ∧ 0 < t.blu.effStart) → s.noticedAlone t NoticeKind.startDemand none) ∧
         ((0 < s.blu.effStart ∨ t.blu.effStart = 0) → t.ntu = s.ntu) ∧
         (∀ i : SlotIx, t.blu.minRunMark[i] = (s.blu.minRunMark[i] ||
           (s.genset? i).any (fun g => g.state == .online && g.onlineSince.any (fun x =>
             decide (s.param .minRun * 1000 ≤ (s0.timeS - x).toNat))))) ∧
         (t.blu.grid = .normal → s.recordsInRange → ∀ may : SlotIx → Genset → Prop,
           (∀ i g, may i g ↔ s.genset? i = some g ∧ g.state = .online ∧ g.mustRun = false ∧
             s.lifecycle? i ≠ some .retiring ∧ t.blu.minRunMark[i] = true) →
           (((∀ i g, ¬ may i g) ∨
               (∀ i g j x, s.genset? i = some g → g.state = .online → s.genset? j = some x →
                 x.state = .online → i = j) ∨
               (∃ i g, s.genset? i = some g ∧ (g.state = .unloading ∨
                 (g.state = .online ∧ s.lifecycle? i = some .retiring)))) →
             t.blu.stopCandidate = none ∧ t.scu = (s0.cancel .stopDelay).scu) ∧
           (∀ i g, may i g →
             (∃ j x, j ≠ i ∧ s.genset? j = some x ∧ x.state = .online) →
             (∀ j x, s.genset? j = some x → x.state ≠ .unloading ∧
               (x.state = .online → s.lifecycle? j ≠ some .retiring)) →
             (∀ j x, j ≠ i → may j x → x.rank < g.rank ∨ (x.rank = g.rank ∧ j < i)) →
             t.blu.stopCandidate = some i ∧
             ((r.required : Int) + s.param .stopMargin ≤ r.headroom - g.rated →
               (s.blu.stopCandidate = some i → s0.isSet .stopDelay = true → t.scu = s0.scu) ∧
               ((s.blu.stopCandidate ≠ some i ∨ s0.isSet .stopDelay = false) →
                 t.scu = (s0.setDeadline .stopDelay (s.param .stopDelay * 1000)).scu)) ∧
             (r.headroom - g.rated < (r.required : Int) + s.param .stopMargin →
               t.scu = (s0.cancel .stopDelay).scu))) ∧
         ((s.link.phase ≠ .free ∨ s.link.transaction = none) → ∀ i p, t.pv? i = some p →
           s.lifecycle? i = some .active → t.inHands i = some p.setpoint) ∧
         (s.link.phase ≠ .free →
           { t.link with setpoints := s.link.setpoints } = s.link ∧
           (∀ i p, t.pv? i = some p → s.lifecycle? i = some .active → t.queued i =
             if s.inHands i = some p.setpoint ∧
                 (s.queued i ≠ none ∨ s.onWire i ≠ none ∨ p.lastAck = some p.setpoint)
             then s.queued i else some p.setpoint) ∧
           (∀ i p, s.pv? i = some p → s.lifecycle? i = some .retiring → t.queued i =
             if s.queued i = none ∧ s.onWire i = none ∧ p.lastAck ≠ some 0 then some 0
             else s.queued i) ∧
           (∀ i, (s.pv? i = none ∨ s.lifecycle? i = some .provisional) → t.queued i = s.queued i)) ∧
         { t with slots := s0.slots, stations := s0.stations, link := s0.link, blu := s0.blu,
                  scu := s0.scu, mail := s0.mail, ntu := s0.ntu } = s0)) ∧
  (∀ (c : Instr) (s s0 : State),
     ((c = .evalPeriodExpiry ∧ s.expires .evaluation s0) ∨
       (c = .reevaluationRequest ∧ s.port.resetHeld = false ∧ s.blu.reevaluation = true ∧
         s0 = { s with blu := { s.blu with reevaluation := false } })) →
     s.blu.grid ≠ .survey → s.blu.grid ≠ .dark →
     ∃ (t : State) (r : Results) (more : List Message), exec c s = .next t ∧
       t.blu.results = some r ∧ t.mail = s0.mail ++ more ∧
       (s.blu.grid ≠ .restoring → ∀ h caps, Message.rsqEvaluation h caps ∉ more) ∧
       (s.blu.grid = .restoring → ∃ caps : List CapResult,
         more = [.startDemand 0, .shuEvaluation 0 r.load r.headroom r.required .restoring,
           .rsqEvaluation r.headroom caps] ∧
         (caps.map CapResult.slot).Pairwise (· < ·) ∧
         (∀ i p, t.pv? i = some p → p.planCap.isSome = true → ∃ q ∈ caps, q.slot = i) ∧
         (∀ q ∈ caps, ∃ p, t.pv? q.slot = some p ∧ p.planCap.isSome = true ∧ q.setpoint = p.setpoint ∧
           (s.link.phase ≠ .free → (q.queued = true ↔ s.lifecycle? q.slot = some .active ∧
             ¬ (s.inHands q.slot = some p.setpoint ∧ (s.queued q.slot ≠ none ∨
               s.onWire q.slot ≠ none ∨ p.lastAck = some p.setpoint)))))))

/-- The class-wise cut of an allowance among plants of classes 0 to 7, each in a slot of its own: without
curtailment every target is the rated; with it, the availability left under the targets is the allowance
exactly, a class above one that is cut has target 0, and no target exceeds an availability that is cut. -/
def Obligations.ClassWiseCutTotalsTheAllowance : Prop :=
  ∀ (ps : List (SlotIx × Pv)) (allowance : Nat) (target : SlotIx × Pv → Nat),
    (ps.map Prod.fst).Nodup → (∀ p ∈ ps, p.2.cls ≤ 7) →
    (∀ p, target p = targetOf (targets ps allowance) p.1) →
    (pavSum ps ≤ allowance → ∀ p ∈ ps, target p = p.2.rated) ∧
    (allowance < pavSum ps →
      (ps.map (fun p => min (target p) p.2.pav)).sum = allowance ∧
      (∀ p ∈ ps, target p < p.2.pav → ∀ q ∈ ps, p.2.cls < q.2.cls → target q = 0) ∧
      (∀ p ∈ ps, target p ≤ p.2.pav ∨ target p = p.2.rated))

/-- The pro-rata cut of X in a class whose availability exceeds X: each plant's cut is its share rounded
down, or one more for a plant that gets a kW of the remainder; the cuts total X, none exceeds the plant's
availability, and the remainder goes down the order of descending availability, the lower slot first. -/
def Obligations.ProRataCutPlacesTheRemainder : Prop :=
  ∀ (ps : List (SlotIx × Pv)) (x : Nat) (cut : SlotIx × Pv → Nat),
    (ps.map Prod.fst).Nodup → x < pavSum ps →
    (∀ p, cut p = p.2.pav - targetOf (proRata x ps) p.1) →
    (∀ p ∈ ps, cut p ≤ p.2.pav ∧ targetOf (proRata x ps) p.1 = p.2.pav - cut p ∧
      (cut p = x * p.2.pav / pavSum ps ∨ cut p = x * p.2.pav / pavSum ps + 1)) ∧
    (ps.map cut).sum = x ∧
    (∀ p ∈ ps, ∀ q ∈ ps, (q.2.pav < p.2.pav ∨ (p.2.pav = q.2.pav ∧ p.1 < q.1)) →
      cut q = x * q.2.pav / pavSum ps + 1 → cut p = x * p.2.pav / pavSum ps + 1)

/-- The setpoints an evaluation leaves: a distributable plant takes a target at or below its setpoint at
once and approaches a higher one by at most one ramp step; a fixed plant keeps its setpoint, but in
RESTORING takes the lesser of it and its plan cap (0 while absent); in RESTORING none exceeds its plan cap;
and whenever the class-wise cut is in force, the sum over the distributable plants of the lesser of setpoint
and availability does not exceed the allowance left to them. The distributable plants are the ACTIVE ones
that are fresh, the fixed plants the ACTIVE ones that are stale, and the allowance left is the allowance of
the results less the setpoints of the fixed plants, or 0. The cap on a target is the plan cap, or 0 while it
is absent, in RESTORING, and none elsewhere. -/
def Obligations.EvaluationKeepsPvWithinTheAllowance : Prop :=
  (∀ (c : Instr) (s s0 t : State),
     ((c = .evalPeriodExpiry ∧ s.expires .evaluation s0) ∨
       (c = .reevaluationRequest ∧ s.port.resetHeld = false ∧ s.blu.reevaluation = true ∧
         s0 = { s with blu := { s.blu with reevaluation := false } })) →
     s.blu.grid ≠ .survey → s.blu.grid ≠ .dark → s.recordsInRange → exec c s = .next t →
     (∀ i p, (i, p) ∈ s0.distributable → ∃ p' target, t.pv? i = some p' ∧
       target = capped s.blu.grid p (targetOf (targets s0.distributable s0.sharedAllowance) i) ∧
       (target ≤ p.setpoint → p'.setpoint = min p.rated target) ∧
       (p.setpoint < target → p.ramp = none → p'.setpoint = min p.rated target) ∧
       (∀ limit, p.setpoint < target → p.ramp = some limit →
         p'.setpoint = min p.rated
           (min target (p.setpoint + (limit * s.param .evalPeriod + 999) / 1000)))) ∧
     (∀ i p, (i, p) ∈ s0.fixedPlants → s.blu.grid ≠ .restoring →
       ∃ p', t.pv? i = some p' ∧ p'.setpoint = p.setpoint) ∧
     (∀ i p, s.blu.grid = .restoring → s0.pv? i = some p → s0.lifecycle? i = some .active →
       ∃ p', t.pv? i = some p' ∧ p'.setpoint ≤ p.planCap.getD 0) ∧
     (∀ i p, (i, p) ∈ s0.fixedPlants → s.blu.grid = .restoring →
       ∃ p', t.pv? i = some p' ∧ p'.setpoint = min p.setpoint (p.planCap.getD 0)) ∧
     (s0.sharedAllowance < pavSum s0.distributable →
       (s0.distributable.map (fun p => min ((t.pv? p.1).elim 0 Pv.setpoint) p.2.pav)).sum ≤
         s0.sharedAllowance)) ∧
  ((∀ s : State,
     (∀ i, s.freshSlot i = true ↔ ∃ r x, s.record? i = some r ∧ r.fresh = true ∧
       r.lastReport = some x ∧ (s.timeS - x).toNat ≤ s.param .staleTime) ∧
     (∀ i p, (i, p) ∈ s.distributable ↔
       s.pv? i = some p ∧ s.lifecycle? i = some .active ∧ s.freshSlot i = true) ∧
     (∀ i p, (i, p) ∈ s.fixedPlants ↔
       s.pv? i = some p ∧ s.lifecycle? i = some .active ∧ s.freshSlot i = false) ∧
     (s.distributable.map Prod.fst).Pairwise (· < ·) ∧ (s.fixedPlants.map Prod.fst).Pairwise (· < ·)) ∧
   (∀ p : Pv, p.pav = min (p.available.getD 0) p.rated) ∧
   (∀ (g : GridState) (p : Pv) (v : Nat),
     capped g p v = if g = .restoring then min v (p.planCap.getD 0) else v) ∧
   (∀ (c : Instr) (s s0 : State),
     ((c = .evalPeriodExpiry ∧ s.expires .evaluation s0) ∨
       (c = .reevaluationRequest ∧ s.port.resetHeld = false ∧ s.blu.reevaluation = true ∧
         s0 = { s with blu := { s.blu with reevaluation := false } })) →
     s.blu.grid ≠ .survey → s.blu.grid ≠ .dark →
     ∃ (t : State) (r : Results), exec c s = .next t ∧ t.blu.results = some r ∧
       s0.sharedAllowance = r.allowance - (s0.fixedPlants.map (fun p => p.2.setpoint)).sum))

/-- A stage raise takes NORMAL and SHORT to EMERGENCY, a dark declaration any state to DARK with its entry
actions, the plan start DARK to RESTORING, a LIVE declaration SURVEY and DARK (and RESTORING with the plan
COMPLETE) to NORMAL with an evaluation at once, the one the evaluation period brings, and the plan end
RESTORING by the bus; in other states each has no effect. The stop-delay expiry in NORMAL unloads an ONLINE
candidate that is neither RETIRING nor must-run: its UNLOAD joins the command queue, once a slot; a busy
line is left at that, and on a free line the arbiter then chooses. In every case the candidate becomes none.
A change outside an evaluation hands on the start demand alone (assumption log 15), and a departure from
ONLINE hands RSQ nothing (assumption log 24). An effective start demand that rises from 0 at a stage raise
is noticed. On entering DARK an entry of 0 is queued by the condition on last sent and last acknowledged
alone (assumption log 14). The time a frame takes is the model's reading (assumption log 10). -/
def Obligations.GridStateMovesOnEvents : Prop :=
  ((∀ (s s0 : State) (k : StageIx), s.takes Message.stageRaiseBlu? k s0 →
     (s.blu.grid ∉ [.normal, .short] → exec .gridStageRaise s = .next s0) ∧
     (s.blu.grid ∈ [.normal, .short] → ∃ t, exec .gridStageRaise s = .next t ∧
       t.blu.grid = .emergency ∧ t.blu.effStart = s.blu.results.elim 0 Results.startDemand ∧
       t.blu.effShed = s.blu.results.elim 0 Results.shedDemand ∧ t.blu.results = s.blu.results ∧
       t.blu.stopCandidate = (if s.blu.grid = .normal then none else s.blu.stopCandidate) ∧
       { t.blu with
         grid := s.blu.grid, effStart := s.blu.effStart, effShed := s.blu.effShed,
         stopCandidate := s.blu.stopCandidate } = s.blu ∧
       t.scu = (if s.blu.grid = .normal then s0.cancel .stopDelay else s0).scu ∧
       ((s.blu.effStart = 0 ∧ 0 < t.blu.effStart) →
         s.noticedAlone t NoticeKind.startDemand none) ∧
       ((0 < s.blu.effStart ∨ t.blu.effStart = 0) → t.ntu = s.ntu) ∧
       t.mail = s0.mail ++ [.gridGsq s.blu.grid .emergency, .gridShu s.blu.grid .emergency,
         .gridRsq s.blu.grid .emergency, .startDemand t.blu.effStart] ∧
       { t with blu := s0.blu, scu := s0.scu, mail := s0.mail, ntu := s0.ntu } = s0)) ∧
   (∀ (s s0 : State), s.takes Message.darkBlu? () s0 →
     (s.blu.grid = .dark → exec .enterDark s = .next s0) ∧
     (s.blu.grid ≠ .dark → ∃ t, exec .enterDark s = .next t ∧ s0.inDark t)) ∧
   (∀ (s s0 : State), s.takes Message.liveBlu? () s0 →
     (s.blu.grid ∈ [.normal, .short, .emergency] → exec .gridLiveDeclaration s = .next s0) ∧
     (s.blu.grid = .restoring → s.rsq.state ≠ .complete → exec .gridLiveDeclaration s = .next s0) ∧
     ((s.blu.grid ∈ [.survey, .dark] ∨ (s.blu.grid = .restoring ∧ s.rsq.state = .complete)) →
       ∃ t, exec .gridLiveDeclaration s = .next t ∧ s0.evaluatedLive t)) ∧
   (∀ (s s0 : State), s.takes Message.planStart? () s0 →
     (s.blu.grid ≠ .dark → exec .planStartReport s = .next s0) ∧
     (s.blu.grid = .dark → exec .planStartReport s = .next { s0 with
       blu := { s.blu with grid := .restoring, effStart := 0, effShed := 0 },
       mail := s0.mail ++ [.gridGsq .dark .restoring, .gridShu .dark .restoring,
         .gridRsq .dark .restoring, .startDemand 0] })) ∧
   (∀ (s s0 : State) (complete : Bool), s.takes Message.planEnd? complete s0 →
     (s.blu.grid ≠ .restoring → exec .planEndReport s = .next s0) ∧
     (s.blu.grid = .restoring → s.bus.live = false → complete = true →
       exec .planEndReport s = .next s0) ∧
     (s.blu.grid = .restoring → s.bus.live = false → complete = false →
       ∃ t, exec .planEndReport s = .next t ∧ s0.inDark t) ∧
     (s.blu.grid = .restoring → s.bus.live = true →
       ∃ t, exec .planEndReport s = .next t ∧ s0.evaluatedLive t))) ∧
  (∀ (s s0 : State), s.expires .stopDelay s0 →
     (s.blu.stopCandidate = none → exec .stopDelayExpiry s = .next s0) ∧
     (∀ i g, s.blu.stopCandidate = some i → s.genset? i = some g →
       ((s.blu.grid ≠ .normal ∨ g.state ≠ .online ∨ g.mustRun = true ∨
           s.lifecycle? i = some .retiring) →
         exec .stopDelayExpiry s =
           .next { s0 with blu := { s0.blu with stopCandidate := none } }) ∧
       (s.blu.grid = .normal → g.state = .online → g.mustRun = false →
         s.lifecycle? i ≠ some .retiring → s.quiet →
         ∃ t, exec .stopDelayExpiry s = .next t ∧ t.blu.stopCandidate = none ∧
           s0.sequenced t i { g with state := .unloading, onlineSince := none } ∧
           t.blu.reevaluation = true ∧ t.blu.minRunMark[i] = false ∧
           (∃ u : State, s0.sequenced u i { g with state := .unloading, onlineSince := none } ∧
             s0.onlyBody u i false ∧ s0.onlyLine u g.runLine ∧
             u.blu = { s0.blu with
               stopCandidate := none, reevaluation := true, minRunMark := s.blu.minRunMark.set i false } ∧
             ((∀ e ∈ s.link.commands, e.slot ≠ i) → u.link = { s.link with
               commands := s.link.commands ++ [{ slot := i, gen := s.gen i }] } ∧
               (s.link.phase = .free → u.arbiterChooses t)) ∧
             ((∃ e ∈ s.link.commands, e.slot = i) → u.link = s.link ∧ t = u) ∧
             (s.link.phase ≠ .free → t = u) ∧
             { u with slots := s0.slots, lines := s0.lines, scu := s0.scu, blu := s0.blu,
                      link := s0.link } = s0) ∧
           { t with slots := s0.slots, lines := s0.lines, scu := s0.scu, blu := s0.blu,
                    link := s0.link, stations := s0.stations } = s0)))

/-! ### The Genset Sequencer -/

/-- The expiry of a genset timer, in each state that has one: the state that follows, with its run output
and timer, the attempts used, the notices and hand-overs of an entry to ONLINE or LOCKOUT, and then start
selection (assumption log 23). A genset that comes to SYNCING with a permit line on a bus that is not live
joins the waiters and tries a grant: it waits while another genset holds the permit. A sync expiry of a
genset that does not hold the permit is stated here, and of its holder with the permit. The timer is set to
the seconds of the parameter of the state, or cancelled, and no other deadline differs. -/
def Obligations.GensetTimersMoveTheSequence : Prop :=
  ∀ (i : SlotIx) (s s0 : State) (g : Genset), s.expires (.gensetTimer i) s0 → s.genset? i = some g →
    (g.state = .cranking → s.lifecycle? i ≠ some .retiring → ∃ u t, exec (.crankTimeExpiry i) s = .next t ∧
      (s.param .crankAttempts ≤ g.attempts + 1 →
        s0.lockedOut u i { g with attempts := g.attempts + 1 }) ∧
      (g.attempts + 1 < s.param .crankAttempts →
        s0.movedTo u i { g with attempts := g.attempts + 1, state := .resting }) ∧
      SelectionRuns 0 u t) ∧
    (g.state = .resting → ∃ u t, exec (.crankRestExpiry i) s = .next t ∧
      s0.movedTo u i { g with state := if s.filtered g.readyLine then .runUp else .cranking } ∧
      SelectionRuns 0 u t) ∧
    (g.state = .runUp → s.filtered g.breakerLine = false →
      ∃ u v t, exec (.warmTimeExpiry i) s = .next t ∧ s0.comesToSync u i g ∧ u.ntu = s.ntu ∧
        u.blu = s.blu ∧ u.joinTried v g.permitLine ∧ SelectionRuns 0 v t) ∧
    (g.state = .runUp → s.filtered g.breakerLine = true →
      ∃ u t, exec (.warmTimeExpiry i) s = .next t ∧ s0.cameOnline u i g ∧ s0.onlyLine u g.runLine ∧
        u.gsq = { s.gsq with waitList := s.gsq.waitList.filter (fun j => j != i) } ∧
        SelectionRuns 0 u t) ∧
    (g.state = .syncing → s.lifecycle? i ≠ some .retiring → s.gsq.permitHolder ≠ some i →
      ∃ (st : GensetState) (u t : State), exec (.syncTimeExpiry i) s = .next t ∧
        st = (if s.param .crankAttempts ≤ g.attempts + 1 then .lockout
          else if s.placesUsed < s.param .startLimit then .resting else .stopped) ∧
        (st = .lockout → s0.lockedOut u i { g with attempts := g.attempts + 1 }) ∧
        (st ≠ .lockout → s0.sequenced u i { g with attempts := g.attempts + 1, state := st } ∧
          s0.onlyBody u i false ∧ s0.onlyLine u g.runLine ∧
          u.gsq = { s.gsq with
            waiters := s.gsq.waiters.filter (fun j => j != i),
            waitList := s.gsq.waitList.filter (fun j => j != i) ++
              if st = .stopped then [i] else [] } ∧
          { u with slots := s0.slots, lines := s0.lines, scu := s0.scu, gsq := s0.gsq } = s0) ∧
        SelectionRuns 0 u t) ∧
    (g.state = .unloading →
      ∃ u t, exec (.unloadTimeExpiry i) s = .next t ∧ s0.cooling u i g ∧ SelectionRuns 0 u t) ∧
    (g.state = .cooldown →
      (s.filtered g.breakerLine = true →
        exec (.coolTimeExpiry i) s = .next (s0.raise NoticeKind.breaker (some i.val))) ∧
      (s.filtered g.breakerLine = false → s.lifecycle? i ≠ some .retiring →
        ∃ u t, exec (.coolTimeExpiry i) s = .next t ∧ s0.cooled u i g ∧ SelectionRuns 0 u t))

/-- A change of a genset's breaker input or ready input: a close in SYNCING enters ONLINE, an opening in
ONLINE is a trip, an opening in UNLOADING ends the unload, one in COOLDOWN moves to STOPPED once the timer
has run and is left alone while it runs, a close in a state that did not ask for it raises BREAKER; a ready
input coming up ends the cranking, and one lost while running locks the genset out. The genset is the one
the line serves when GSQ takes the change (assumption log 25); a departure from ONLINE hands RSQ nothing
(assumption log 24). The timer is set to the seconds of the parameter of the state, or cancelled, and no
other deadline differs. A tripped genset that comes to SYNCING joins the waiters and tries a grant. Start
selection follows the genset's change (assumption log 23), and a breaker change is then worked for the
permit: a held permit is released and granted anew where another breaker closes, and a grant is tried where
one opens (assumption log 40). A genset in SYNCING that loses ready while it holds the permit tries a grant
after its lockout. The close of the breaker of the permit's holder is stated with the permit. -/
def Obligations.GensetInputsMoveTheSequence : Prop :=
  (∀ (l : LineIx) (closed : Bool) (s s0 : State) (i : SlotIx) (g : Genset),
    s.takes Message.breakerGsq? (l, closed) s0 → s.genset? i = some g → g.breakerLine = l →
    (∀ j x, j ≠ i → s.genset? j = some x → x.breakerLine ≠ l) →
    (g.state = .syncing → closed = true → s.gsq.permitHolder ≠ some i →
      ∃ u v t, exec .genBreakerChange s = .next t ∧ s0.cameOnline u i g ∧ s0.onlyLine u g.runLine ∧
        u.gsq = { s.gsq with
          waitList := s.gsq.waitList.filter (fun j => j != i),
          waiters := s.gsq.waiters.filter (fun j => j != i) } ∧
        SelectionRuns 0 u v ∧ v.permitGivenUp t) ∧
    (g.state = .online → closed = false → s.filtered l = false →
      ∃ u v w t, exec .genBreakerChange s = .next t ∧
        s0.comesToSync u i { g with trips := min 255 (g.trips + 1), onlineSince := none } ∧
        u.blu = { s.blu with
          reevaluation := true, minRunMark := s.blu.minRunMark.set i false } ∧
        s.noticedAlone u NoticeKind.gensetTrip (some i.val) ∧ u.joinTried v g.permitLine ∧
        SelectionRuns 0 v w ∧ w.grantTried t) ∧
    (g.state = .online → closed = false → s.filtered l = true →
      ∃ u v t, exec .genBreakerChange s = .next t ∧
        s0.sequenced u i { g with
          attempts := 0, trips := min 255 (g.trips + 1), onlineSince := some s.timeS } ∧
        s0.onlyBody u i true ∧ s0.onlyLine u g.runLine ∧
        u.blu = { s.blu with
          reevaluation := true, minRunMark := s.blu.minRunMark.set i false } ∧
        u.ntu = ((s.raise NoticeKind.gensetTrip (some i.val)).raise
          NoticeKind.gensetOnline (some i.val)).ntu ∧
        u.mail = s0.mail ++ [.gensetOnline i] ∧
        u.gsq = { s.gsq with waitList := s.gsq.waitList.filter (fun j => j != i) } ∧
        { u with slots := s0.slots, lines := s0.lines, scu := s0.scu, ntu := s0.ntu, blu := s0.blu,
                 gsq := s0.gsq, mail := s0.mail } = s0 ∧
        SelectionRuns 0 u v ∧ v.grantTried t) ∧
    (g.state = .unloading → closed = false →
      ∃ u v t, exec .genBreakerChange s = .next t ∧ s0.cooling u i g ∧ SelectionRuns 0 u v ∧
        v.grantTried t) ∧
    (g.state = .cooldown → closed = false → s.isSet (.gensetTimer i) = false →
      s.lifecycle? i ≠ some .retiring → ∃ u v t, exec .genBreakerChange s = .next t ∧
        s0.cooled u i g ∧ SelectionRuns 0 u v ∧ v.grantTried t) ∧
    (g.state ∈ [.stopped, .cranking, .resting, .runUp, .cooldown, .lockout] → closed = true →
      s.gsq.permitHolder ≠ some i → ∃ t, exec .genBreakerChange s = .next t ∧
        (s0.raise NoticeKind.breaker (some i.val)).permitGivenUp t) ∧
    (g.state ∈ [.online, .unloading] → closed = true → s.gsq.permitHolder ≠ some i →
      ∃ t, exec .genBreakerChange s = .next t ∧ s0.permitGivenUp t) ∧
    ((g.state ∈ [.stopped, .cranking, .resting, .runUp, .lockout, .syncing] ∨
        (g.state = .cooldown ∧ s.isSet (.gensetTimer i) = true)) → closed = false →
      ∃ t, exec .genBreakerChange s = .next t ∧ s0.grantTried t)) ∧
  (∀ (l : LineIx) (active : Bool) (s s0 : State) (i : SlotIx) (g : Genset),
    s.takes Message.readyGsq? (l, active) s0 → s.genset? i = some g → g.readyLine = l →
    (∀ j x, j ≠ i → s.genset? j = some x → x.readyLine ≠ l) →
    (g.state = .cranking → active = true → ∃ u t, exec .gensetReadyChange s = .next t ∧
      s0.movedTo u i { g with state := .runUp } ∧ SelectionRuns 0 u t) ∧
    (g.state ∈ [.runUp, .syncing, .online, .unloading] → active = false →
      s.lifecycle? i ≠ some .retiring → ∃ u v t, exec .gensetReadyChange s = .next t ∧
        s0.lockedOut u i g ∧ (g.state = .syncing ∧ s.gsq.permitHolder = some i → u.grantTried v) ∧
        (g.state ≠ .syncing ∨ s.gsq.permitHolder ≠ some i → v = u) ∧ SelectionRuns 0 v t) ∧
    ((g.state ∈ [.stopped, .resting, .cooldown, .lockout] ∨ (g.state = .cranking ∧ active = false) ∨
        (g.state ∈ [.runUp, .syncing, .online, .unloading] ∧ active = true)) →
      exec .gensetReadyChange s = .next s0))

/-- GSQ takes an effective start demand, of which an evaluation hands on one (assumption log 15): the demand
is kept; one taken in a grid state other than SHORT and EMERGENCY, or one that the capacity coming covers,
starts nothing; one above it starts the STOPPED candidate of lowest start rank, when no genset can be
recalled and a place is free. At a start demand, at a genset that frees its place by coming up or by a
lockout, the waiting genset first by rank takes a free place, and then one genset after another is started,
from UNLOADING, from COOLDOWN and from STOPPED, the first by rank of its group, until the capacity coming
reaches the demand, which counts as 0 but in SHORT and EMERGENCY, or none can be taken. The states entered
on the way start no run of their own (assumption log 23). A genset started has its timer set to the seconds
of the parameter of its state, and no other deadline differs. -/
def Obligations.StartDemandStartsByRank : Prop :=
  (∀ (kw : Nat) (s s0 : State), s.takes Message.startDemand? kw s0 → s.gsq.waitList = [] →
     ((kw ≤ s.capacityComing ∨ s.blu.grid ∉ [.short, .emergency]) → exec .startDemandHandover s =
       .next { s0 with gsq := { s.gsq with demand := kw } }) ∧
     (∀ i g, s.blu.grid ∈ [.short, .emergency] → s.capacityComing < kw → kw ≤ s.capacityComing + g.rated →
       s.placesUsed < s.param .startLimit → s.genset? i = some g → g.state = .stopped →
       s.lifecycle? i = some .active → g.fault = false →
       (∀ j x, s.genset? j = some x → s.lifecycle? j = some .active → x.fault = false →
         x.state ≠ .unloading ∧ x.state ≠ .cooldown ∧
         (x.state = .stopped → j = i ∨ g.rank < x.rank ∨ (g.rank = x.rank ∧ i < j))) →
       ∃ t, exec .startDemandHandover s = .next t ∧ t.gsq = { s.gsq with demand := kw } ∧
         s0.sequenced t i { g with state := if s.filtered g.readyLine then .runUp else .cranking } ∧
         s0.onlyBody t i false ∧ s0.onlyLine t g.runLine ∧
         { t with slots := s0.slots, lines := s0.lines, scu := s0.scu, gsq := s0.gsq } = s0)) ∧
  ((∀ s : State, s.capacityComing = ((List.finRange 64).map (fun i => match s.genset? i with
     | some g => if g.state ∈ [.cranking, .resting, .runUp, .syncing] ∨ i ∈ s.gsq.waitList
       then g.rated else 0
     | none => 0)).sum) ∧
   (∀ s : State, s.placesUsed = ((List.finRange 64).filter (fun i => (s.genset? i).any (fun g =>
     g.state == .cranking || g.state == .resting))).length) ∧
   (∀ (kw : Nat) (s s0 : State), s.takes Message.startDemand? kw s0 →
     ∃ t, exec .startDemandHandover s = .next t ∧
       SelectionRuns 0 { s0 with gsq := { s.gsq with demand := kw } } t) ∧
   (∀ (l : LineIx) (s s0 : State) (i : SlotIx) (g : Genset),
     s.takes Message.readyGsq? (l, true) s0 → s.genset? i = some g → g.readyLine = l →
     (∀ j x, j ≠ i → s.genset? j = some x → x.readyLine ≠ l) → g.state = .cranking →
     ∃ u t : State, exec .gensetReadyChange s = .next t ∧ s0.movedTo u i { g with state := .runUp } ∧
       SelectionRuns 0 u t) ∧
   (∀ (i : SlotIx) (s s0 : State) (g : Genset), s.expires (.gensetTimer i) s0 →
     s.genset? i = some g → g.state = .cranking → s.lifecycle? i ≠ some .retiring →
     s.param .crankAttempts ≤ g.attempts + 1 →
     ∃ u t : State, exec (.crankTimeExpiry i) s = .next t ∧
       s0.lockedOut u i { g with attempts := g.attempts + 1 } ∧
       SelectionRuns 0 u t))

/-- The dead-bus permit: a LIVE declaration releases it and empties the waiters; a change to a state other
than DARK and RESTORING, from one of them, releases it; an entry to DARK clears the live view, releases the
permit, empties the crank wait list, adds the gensets in SYNCING with a permit line to the waiters and tries
a grant; an entry to RESTORING grants the free permit, on a bus that is not live with every genset breaker
open, to the waiter of lowest start rank, whose permit output is asserted. The holder releases it when it
leaves SYNCING, for ONLINE, at its sync expiry or at a host STOP, and when another breaker closes; a grant
is tried after a release, at a breaker that opens, and as a genset joins the waiters: one that comes to
SYNCING at the end of the warm-up, first by rank among the waiters, takes the free permit at once, its
permit output asserted. A breaker change is worked for the genset first, then for the permit (assumption log
40); the genset is the one the line serves when GSQ takes the change (assumption log 25). -/
def Obligations.PermitFollowsTheBus : Prop :=
  ((∀ s s0 : State, s.takes Message.liveGsq? () s0 →
     ∃ t, exec .gsqLiveDeclaration s = .next t ∧
       t.gsq = { s.gsq with live := true, permitHolder := none, waiters := [] } ∧
       (∀ i g l, s.gsq.permitHolder = some i → s.genset? i = some g → g.permitLine = some l →
         t.lines = s.lines.set l { s.lines[l] with driven := false }) ∧
       (s.gsq.permitHolder = none → t.lines = s.lines) ∧
       { t with gsq := s0.gsq, lines := s0.lines } = s0) ∧
   (∀ (s s0 : State) (old new : GridState), s.takes Message.gridGsq? (old, new) s0 →
     (new ≠ .dark → new ≠ .restoring → old ≠ .dark → old ≠ .restoring →
       exec .gsqGridStateChange s = .next s0) ∧
     (new ≠ .dark → new ≠ .restoring → (old = .dark ∨ old = .restoring) →
       ∃ t, exec .gsqGridStateChange s = .next t ∧ t.gsq = { s.gsq with permitHolder := none } ∧
         (∀ i g l, s.gsq.permitHolder = some i → s.genset? i = some g → g.permitLine = some l →
           t.lines = s.lines.set l { s.lines[l] with driven := false }) ∧
         { t with gsq := s0.gsq, lines := s0.lines } = s0) ∧
     (new = .dark → ∃ t, exec .gsqGridStateChange s = .next t ∧ t.gsq.live = false ∧
       t.gsq.waitList = [] ∧ t.gsq.demand = s.gsq.demand ∧
       (∀ i, s.genset? i = none → t.slots[i] = s.slots[i]) ∧
       (∀ i r g, s.record? i = some r → r.body = .genset g →
         t.slots[i] = { gen := s.gen i, record := some { r with body := .genset { g with
           attempts := if i ∈ s.gsq.waitList then 0 else g.attempts } } }) ∧
       (∀ i g, s.genset? i = some g → g.state = .syncing → g.permitLine.isSome = true →
         i ∈ t.gsq.waiters) ∧
       { t with gsq := s0.gsq, lines := s0.lines, slots := s0.slots } = s0) ∧
     (new = .restoring →
       (s.permitFree = false → exec .gsqGridStateChange s = .next s0) ∧
       (∀ i g, s.blu.grid ∈ [.dark, .restoring] → s.gsq.live = false →
         (∀ l : LineIx, s.lines[l].function = .genBreakerIn → s.lines[l].filtered = false) →
         s.gsq.permitHolder = none → i ∈ s.gsq.waiters → s.genset? i = some g →
         (∀ j ∈ s.gsq.waiters, j ≠ i → ∃ x, s.genset? j = some x ∧
           (g.rank < x.rank ∨ (g.rank = x.rank ∧ i < j))) →
         ∃ t, exec .gsqGridStateChange s = .next t ∧ t.gsq = { s.gsq with permitHolder := some i } ∧
           (∀ l, g.permitLine = some l →
             t.lines = s.lines.set l { s.lines[l] with driven := true }) ∧
           { t with gsq := s0.gsq, lines := s0.lines } = s0)))) ∧
  ((∀ (l : LineIx) (s s0 v : State), s.takes Message.breakerGsq? (l, true) s0 →
     (((∀ j x, s.genset? j = some x → x.breakerLine = l → x.state ∈ [.online, .unloading]) ∧ v = s0) ∨
       ∃ j x, s.genset? j = some x ∧ x.breakerLine = l ∧
         (∀ k y, k ≠ j → s.genset? k = some y → y.breakerLine ≠ l) ∧
         x.state ∈ [.stopped, .cranking, .resting, .runUp, .cooldown, .lockout] ∧
         v = s0.raise NoticeKind.breaker (some j.val)) →
     (s.gsq.permitHolder = none → exec .genBreakerChange s = .next v) ∧
     (∀ i g, s.gsq.permitHolder = some i → s.genset? i = some g → g.breakerLine ≠ l →
       ∃ u t : State, exec .genBreakerChange s = .next t ∧ v.released u g ∧ u.grantTried t)) ∧
   (∀ (l : LineIx) (s s0 : State), s.takes Message.breakerGsq? (l, false) s0 →
     (∀ j x, s.genset? j = some x → x.breakerLine ≠ l) →
     ∃ t, exec .genBreakerChange s = .next t ∧ s0.grantTried t) ∧
   (∀ (l : LineIx) (s s0 : State) (i : SlotIx) (g : Genset),
     s.takes Message.breakerGsq? (l, true) s0 → s.gsq.permitHolder = some i → s.genset? i = some g →
     g.state = .syncing → g.breakerLine = l →
     (∀ j x, j ≠ i → s.genset? j = some x → x.breakerLine ≠ l) →
     s.lines[l].function = .genBreakerIn → s.filtered l = true → g.permitLine ≠ some g.runLine →
     s.lifecycle? i ≠ some .retiring → s.quiet →
     ∃ t, exec .genBreakerChange s = .next t ∧
       s0.cameOnline t i g ∧
       t.gsq = { s.gsq with permitHolder := none, waiters := s.gsq.waiters.filter (fun j => j != i) } ∧
       t.lines = (match g.permitLine with
         | some p => (s.lines.set g.runLine { s.lines[g.runLine] with driven := true }).set p
             { s.lines[p] with driven := false }
         | none => s.lines.set g.runLine { s.lines[g.runLine] with driven := true })) ∧
   (∀ (i : SlotIx) (s s0 : State) (g : Genset) (p : LineIx), s.expires (.gensetTimer i) s0 →
     s.genset? i = some g → g.state = .runUp → g.permitLine = some p → s.filtered g.breakerLine = false →
     s.grantable → (∀ j ∈ s.gsq.waiters, j ≠ i → (s.genset? j).isSome = true ∧ s.ranksBefore i j) →
     s.quiet →
     ∃ u t : State, exec (.warmTimeExpiry i) s = .next t ∧ s0.comesToSync u i g ∧
       u.ntu = s.ntu ∧ u.blu = s.blu ∧ t = { u with
         gsq := { u.gsq with permitHolder := some i },
         lines := u.lines.set p { u.lines[p] with driven := true } }) ∧
   (∀ (i : SlotIx) (s s0 : State) (g : Genset), s.expires (.gensetTimer i) s0 →
     s.gsq.permitHolder = some i → s.genset? i = some g → g.state = .syncing →
     s.lifecycle? i ≠ some .retiring → s.quiet →
     ∃ (st : GensetState) (u v t : State), exec (.syncTimeExpiry i) s = .next t ∧
       st = (if s.param .crankAttempts ≤ g.attempts + 1 then .lockout
         else if s.placesUsed < s.param .startLimit then .resting else .stopped) ∧
       s0.leftSyncing u i g { g with attempts := g.attempts + 1, state := st } ∧ u.grantTried v ∧
       (st = .resting → t = v) ∧
       (st = .stopped → t = { v with gsq := { v.gsq with waitList := [i] } }) ∧
       (st = .lockout → v.noticedAlone t NoticeKind.gensetLockout (some i.val) ∧
         t.mail = v.mail ++ [.gensetLockout i] ∧ { t with ntu := v.ntu, mail := v.mail } = v)) ∧
   (∀ (h : Handle) (s : State) (i : SlotIx) (g : Genset), s.serves (.stop h) → s.resolve h = some i →
     s.gsq.permitHolder = some i → s.genset? i = some g → g.state = .syncing →
     s.lifecycle? i ≠ some .retiring → s.quiet →
     ∃ u t : State, exec (.stop h) s = .next (t.respond (.stop h) .ok []) ∧
       s.leftSyncing u i g { g with attempts := 0, state := .stopped } ∧ u.grantTried t) ∧
   (∀ (s s0 : State) (old : GridState), s.takes Message.gridGsq? (old, .dark) s0 →
     ∃ u t : State, exec .gsqGridStateChange s = .next t ∧
       u.gsq.live = false ∧ u.gsq.permitHolder = none ∧ u.gsq.waitList = [] ∧
       u.gsq.demand = s.gsq.demand ∧
       (∀ j, j ∈ u.gsq.waiters ↔ (j ∈ s.gsq.waiters ∨
         ∃ x, s.genset? j = some x ∧ x.state = .syncing ∧ x.permitLine.isSome = true)) ∧
       (s.gsq.permitHolder = none → u.lines = s.lines) ∧
       (∀ i g, s.gsq.permitHolder = some i → s.genset? i = some g → u.lines = (match g.permitLine with
         | some l => s.lines.set l { s.lines[l] with driven := false }
         | none => s.lines)) ∧
       (∀ i, s.genset? i = none → u.slots[i] = s.slots[i]) ∧
       (∀ i r g, s.record? i = some r → r.body = .genset g →
         u.slots[i] = { gen := s.gen i, record := some { r with body := .genset { g with
           attempts := if i ∈ s.gsq.waitList then 0 else g.attempts } } }) ∧
       { u with gsq := s0.gsq, lines := s0.lines, slots := s0.slots } = s0 ∧ u.grantTried t))

/-! ### The Shed Unit -/

/-- SHU takes an evaluation, and makes each work where both the grid state handed over and the one BLU holds
call for it (assumption log 32): in the states that work, each armed set holds only ACTIVE, sheddable,
CLOSED feeders without a hold, within the stage's window, outside the batch and in no other set, chosen
in the order of R109 until they reach its amount or shown short; in EMERGENCY the batch keeps its members
in order and gains such feeders within the reserve window, chosen in that order, until it reaches the
effective shed demand or is shown short; a batch that was empty and gains members with no stagger
deadline set is given one, due STAGGER_GAP after the last batch pulse or at once; SHED_SHORTFALL is
raised for each shortfall flag that passes from clear to set, with its stage number or with no detail for
the reserve, the last of several leaving its detail, and no other notice differs; in NORMAL the reclose
candidate is the TRIPPED feeder of highest class, the lower slot among equals, with its delay set or
running on while the reserve holds it; outside NORMAL there is none. A work not made leaves the batch,
its shortfall flag and the armed sets as they were. -/
def Obligations.ShedEvaluationArmsAndAppends : Prop :=
  ∀ (shed load : Nat) (headroom : Int) (required : Nat) (grid : GridState) (s s0 : State),
    s.takes Message.shuEvaluation? (shed, load, headroom, required, grid) s0 →
    ∃ t, exec .shuEvaluationHandover s = .next t ∧ ∀ arms sheds tests : Prop,
      (arms ↔ grid ∈ [.normal, .short, .emergency, .restoring] ∧
        s.blu.grid ∈ [.normal, .short, .emergency, .restoring]) →
      (sheds ↔ grid = .emergency ∧ s.blu.grid = .emergency) →
      (tests ↔ grid = .normal ∧ s.blu.grid = .normal) →
      (arms → ∀ k : StageIx,
        (t.shu.armed[k]).Nodup ∧
        (∀ j : StageIx, j ≠ k → ∀ i ∈ t.shu.armed[k], i ∉ t.shu.armed[j]) ∧
        (∀ i ∈ t.shu.armed[k], i ∉ t.shu.batch ∧ t.lifecycle? i = some .active ∧
          ∃ f, t.feeder? i = some f ∧ f.sheddable = true ∧ f.state = .closed ∧ f.hold = 0 ∧
            f.cls ≤ s.param (.ufWindow k)) ∧
        (t.shu.stageShort[k] = true ↔
          (t.shu.armed[k].map (fun i => (t.feeder? i).elim 0
            (fun f => f.measured.getD f.nominal))).sum <
            (s.param (.ufShare k) * load + 99) / 100) ∧
        (∀ cand : SlotIx → Feeder → Prop,
          (∀ i f, cand i f ↔ t.lifecycle? i = some .active ∧ t.feeder? i = some f ∧
            f.sheddable = true ∧ f.state = .closed ∧ f.hold = 0 ∧ f.cls ≤ s.param (.ufWindow k) ∧
            i ∉ t.shu.batch ∧ ∀ j : StageIx, j < k → i ∉ t.shu.armed[j]) →
          t.selection cand t.shu.armed[k] t.shu.stageShort[k]
            ((s.param (.ufShare k) * load + 99) / 100))) ∧
      (¬ arms → t.shu.armed = s.shu.armed ∧
        t.shu.stageShort = s.shu.stageShort) ∧
      (∃ more, t.shu.batch = s.shu.batch ++ more ∧ (¬ sheds → more = []) ∧
        (∀ i ∈ more, s.lifecycle? i = some .active ∧ ∃ f, s.feeder? i = some f ∧
          f.sheddable = true ∧ f.state = .closed ∧ f.hold = 0 ∧
          f.cls ≤ s.param .reserveWindow ∧
          t.feeder? i = some { f with state := .tripPending, cause := none, lastChange := s.timeS }) ∧
        (∀ i, i ∉ more → t.slots[i] = s.slots[i]) ∧
        (sheds → (t.shu.reserveShort = true ↔
          (t.shu.batch.map (fun i => (t.feeder? i).elim 0
            (fun f => f.measured.getD f.nominal))).sum < shed)) ∧
        (∀ cand : SlotIx → Feeder → Prop, sheds →
          (∀ i f, cand i f ↔ s.lifecycle? i = some .active ∧ s.feeder? i = some f ∧
            f.sheddable = true ∧ f.state = .closed ∧ f.hold = 0 ∧ f.cls ≤ s.param .reserveWindow ∧
            i ∉ s.shu.batch) →
          s.selection cand more t.shu.reserveShort
            (shed - (s.shu.batch.map (fun i => (s.feeder? i).elim 0
              (fun f => f.measured.getD f.nominal))).sum)) ∧
        (sheds → s.shu.batch = [] → more ≠ [] → t.isSet .stagger = true)) ∧
      (¬ sheds → t.shu.reserveShort = s.shu.reserveShort) ∧
      t.shu.lastPulse = s.shu.lastPulse ∧
      (∀ rises : List (Option Nat),
        rises = (if s.shu.reserveShort = false ∧ t.shu.reserveShort = true then [none] else []) ++
          (List.finRange 4).filterMap (fun k : StageIx =>
            if s.shu.stageShort[k] = false ∧ t.shu.stageShort[k] = true then some (some (k.val + 1))
            else none) →
        (rises = [] → t.ntu = s.ntu) ∧
        (∀ d, rises.getLast? = some d → t.ntu.held[NoticeKind.shedShortfall] = some
          { detail := d,
            count := min 255
              ((s.ntu.held[NoticeKind.shedShortfall]).elim 0 Notice.count + rises.length) }) ∧
        t.ntu = (s.each rises (State.raise NoticeKind.shedShortfall)).ntu) ∧
      (∀ n : NoticeIx, n ≠ NoticeKind.shedShortfall → t.ntu.held[n] = s.ntu.held[n]) ∧
      (¬ tests → t.shu.recloseCandidate = none ∧ t.isSet .recloseDelay = false) ∧
      ((¬ tests ∧ (¬ sheds ∨ s.shu.batch ≠ [] ∨ t.shu.batch = [] ∨
          s.isSet .stagger = true)) → t.scu = (s0.cancel .recloseDelay).scu) ∧
      (sheds → s.shu.batch = [] → t.shu.batch ≠ [] → s.isSet .stagger = false →
        (∀ p gap since, s.shu.lastPulse = some p → gap = s.param .staggerGap →
          since = (s.timeS - p).toNat → since < gap →
          t.scu = ((s0.setDeadline .stagger (gap - since)).cancel .recloseDelay).scu ∧
          (⟨.stagger, p + BitVec.ofNat 32 gap, none⟩ : Deadline) ∈ t.scu.entries ∧
          ∀ d ∈ t.scu.entries, d.key = .stagger → d.due = p + BitVec.ofNat 32 gap) ∧
        ((∀ p, s.shu.lastPulse = some p → s.param .staggerGap ≤ (s.timeS - p).toNat) →
          t.scu = ((s0.setDeadline .stagger 0).cancel .recloseDelay).scu ∧
          DeadlineKey.stagger ∈ t.scu.delivered)) ∧
      (∀ i, tests → t.shu.recloseCandidate = some i → ∃ f, t.feeder? i = some f ∧
        t.lifecycle? i = some .active ∧ f.state = .tripped ∧ f.closeLine.isSome = true ∧
        (f.cause = some .shedReserve ∨ ∃ k, f.cause = some (.shedStage k)) ∧
        (t.isSet .recloseDelay = true ↔
          ((f.measured.getD f.nominal + s.param .recloseMargin : Nat) : Int) ≤ headroom - required)) ∧
      (tests → s.recordsInRange → ∀ fit : SlotIx → Feeder → Prop,
        (∀ i f, fit i f ↔ s.lifecycle? i = some .active ∧ s.feeder? i = some f ∧
          f.state = .tripped ∧ f.closeLine.isSome = true ∧
          (f.cause = some .shedReserve ∨ ∃ k, f.cause = some (.shedStage k))) →
        ((∀ i f, ¬ fit i f) → t.shu.recloseCandidate = none ∧ t.isSet .recloseDelay = false ∧
          t.scu = (s0.cancel .recloseDelay).scu) ∧
        (∀ i f, fit i f →
          (∀ j q, j ≠ i → fit j q → q.cls < f.cls ∨ (q.cls = f.cls ∧ i < j)) →
          t.shu.recloseCandidate = some i ∧
          (headroom - required < ((f.measured.getD f.nominal + s.param .recloseMargin : Nat) : Int) →
            t.scu = (s0.cancel .recloseDelay).scu) ∧
          (((f.measured.getD f.nominal + s.param .recloseMargin : Nat) : Int) ≤ headroom - required →
            (s.shu.recloseCandidate = some i → s.isSet .recloseDelay = true → t.scu = s.scu) ∧
            ((s.shu.recloseCandidate ≠ some i ∨ s.isSet .recloseDelay = false) →
              t.scu = (s0.setDeadline .recloseDelay (s.param .recloseDelay * 1000)).scu)))) ∧
      { t with slots := s0.slots, shu := s0.shu, scu := s0.scu, ntu := s0.ntu } = s0

/-- The stagger expiry pulses the first member of the batch that passes its recheck (TRIP_PENDING, no hold,
sheddable) with cause SHED_RESERVE, and sets itself again while members remain; every head before it that
fails leaves the batch in the same expiry, and returns to CLOSED where it was TRIP_PENDING; an emptied batch
asks for a re-evaluation, and an empty batch is left alone. The last batch pulse and the deadline set again
are counted from S when SHU takes the expiry (assumption log 59). -/
def Obligations.StaggerPulsesTheHead : Prop :=
  ∀ s s0 : State, s.expires .stagger s0 →
    (∃ t, exec .staggerExpiry s = .next t ∧ StaggerRuns s0 t) ∧
    (s.shu.batch = [] → exec .staggerExpiry s = .next s0) ∧
    (∀ i rest f, s.shu.batch = i :: rest → s.feeder? i = some f →
      (f.state = .tripPending → f.hold = 0 → f.sheddable = true →
        ∃ t, exec .staggerExpiry s = .next t ∧ s0.pulsed t i f .shedReserve ∧
          s0.onlyBody t i false ∧ s0.onlyDriven t ∧
          s.noticed t NoticeKind.shedExecuted (some i.val) ∧ t.shu.lastPulse = some s0.timeS ∧
          t.shu.batch = rest.filter (fun j => j != i) ∧
          (∀ j ∈ rest, j ≠ i → t.isSet .stagger = true) ∧
          ((∀ j ∈ rest, j = i) → t.blu.reevaluation = true) ∧
          { t with slots := s0.slots, shu := s0.shu, scu := s0.scu, ntu := s0.ntu, blu := s0.blu,
                   lines := s0.lines } = s0) ∧
      (f.state = .tripPending → f.sheddable = false → rest = [] →
        ∃ t, exec .staggerExpiry s = .next t ∧ t.shu.batch = [] ∧ s0.onlyBody t i false ∧
          t.feeder? i = some { f with state := .closed, cause := none, lastChange := s0.timeS } ∧
          t.blu.reevaluation = true ∧ t.mail = s0.mail ++ [.feederClosed i] ∧
          { t with slots := s0.slots, shu := s0.shu, blu := s0.blu, mail := s0.mail } = s0))

/-- A stage raise fires its armed set in the states that allow it: every member still CLOSED without a hold
is OPENING or TRIPPED afterwards for that stage, no other feeder changes, the set is empty, and
SHED_EXECUTED counts each member fired, its detail one of them. The announcement of DARK trips every
feeder that is CLOSED, TRIP_PENDING, CLOSE_PENDING or CLOSING, whatever its holds, empties the sets and
the batch, and cancels the stagger and the reclose delay. With the names sound, each feeder so tripped
has its trip line driven with the pulse's end time, a close window on its close line ended, and its
confirm deadline set or cancelled by its status line; no other line and no other deadline differs. A
batch emptied so asks for a re-evaluation. -/
def Obligations.FiringAndDarkTripFeeders : Prop :=
  (∀ (k : StageIx) (s s0 : State), s.takes Message.stageRaiseShu? k s0 →
    (s.blu.grid ∉ [.normal, .short, .emergency, .restoring] → exec .armedSetFiring s = .next s0) ∧
    (s.blu.grid ∈ [.normal, .short, .emergency, .restoring] →
      ∃ t, exec .armedSetFiring s = .next t ∧ t.shu.armed[k] = [] ∧
        (∀ i f, s.feeder? i = some f → i ∈ s.shu.armed[k] → f.state = .closed → f.hold = 0 →
          t.feeder? i = some (if f.statusLine.any (fun l => !s.filtered l)
            then { f with state := .tripped, cause := some (.shedStage k), pendingCause := none,
                          lastChange := s.timeS }
            else { f with state := .opening, cause := none, pendingCause := some (.shedStage k),
                          lastChange := s.timeS })) ∧
        (∀ i, (i ∉ s.shu.armed[k] ∨ ∀ f, s.feeder? i = some f → f.state ≠ .closed ∨ f.hold ≠ 0) →
          t.slots[i] = s.slots[i]) ∧
        (∀ i f, s.shu.armed[k] = [i] → s.feeder? i = some f → f.state = .closed → f.hold = 0 →
          s0.pulsed t i f (.shedStage k) ∧ s.noticed t NoticeKind.shedExecuted (some i.val) ∧
          s0.onlyDriven t) ∧
        (∀ hit : SlotIx → Feeder → Prop,
          (∀ i f, hit i f ↔ i ∈ s.shu.armed[k] ∧ s.feeder? i = some f ∧ f.state = .closed ∧ f.hold = 0) →
          (s.namesSound → s0.pulsedTogether t hit (fun _ => True)) ∧
          (∀ (j : StageIx) i, i ∈ t.shu.armed[j] ↔ j ≠ k ∧ i ∈ s.shu.armed[j] ∧ ∀ f, ¬ hit i f) ∧
          (∀ i, i ∈ t.shu.batch ↔ i ∈ s.shu.batch ∧ ∀ f, ¬ hit i f) ∧
          (∀ fired : List SlotIx, fired.Nodup → (∀ i, i ∈ fired ↔ ∃ f, hit i f) →
            (fired = [] → t.ntu = s.ntu) ∧
            (fired ≠ [] → ∃ i ∈ fired, t.ntu.held[NoticeKind.shedExecuted] = some
              { detail := some i.val,
                count := min 255
                  ((s.ntu.held[NoticeKind.shedExecuted]).elim 0 Notice.count + fired.length) }))) ∧
        (∀ n : NoticeIx, n ≠ NoticeKind.shedExecuted → t.ntu.held[n] = s.ntu.held[n]) ∧
        t.shu = { s.shu with armed := t.shu.armed, batch := t.shu.batch } ∧
        (∃ asked : Bool, t.blu = { s.blu with reevaluation := asked } ∧
          (asked = true ↔
            (s.blu.reevaluation = true ∨ (s.shu.batch ≠ [] ∧ t.shu.batch = [])))) ∧
        s0.onlyDriven t ∧
        { t with slots := s0.slots, shu := s0.shu, scu := s0.scu, ntu := s0.ntu, blu := s0.blu,
                 lines := s0.lines } = s0)) ∧
  (∀ (old new : GridState) (s s0 : State), s.takes Message.gridShu? (old, new) s0 →
    (old ≠ .normal → new ≠ .dark → exec .shuGridStateChange s = .next s0) ∧
    (old = .normal → new ≠ .normal → new ≠ .dark →
      exec .shuGridStateChange s = .next (({ s0 with shu := { s.shu with recloseCandidate := none } } :
        State).cancel .recloseDelay)) ∧
    (new = .dark → ∃ t, exec .shuGridStateChange s = .next t ∧
      (∀ k : StageIx, t.shu.armed[k] = []) ∧ t.shu.batch = [] ∧ t.shu.recloseCandidate = none ∧
      t.isSet .stagger = false ∧ t.isSet .recloseDelay = false ∧
      (∀ i f, s.feeder? i = some f → f.state ∈ [.closed, .tripPending, .closePending, .closing] →
        t.feeder? i = some (if f.statusLine.any (fun l => !s.filtered l)
          then { f with state := .tripped, cause := some .dark, pendingCause := none,
                        lastChange := s.timeS }
          else { f with state := .opening, cause := none, pendingCause := some .dark,
                        lastChange := s.timeS })) ∧
      (∀ i, (∀ f, s.feeder? i = some f → f.state ∈ [.opening, .tripped, .breakerFail]) →
        t.slots[i] = s.slots[i]) ∧
      (s.namesSound → s0.pulsedTogether t
        (fun i f => s.feeder? i = some f ∧ f.state ∈ [.closed, .tripPending, .closePending, .closing])
        (fun key => key ≠ .stagger ∧ key ≠ .recloseDelay)) ∧
      t.shu = { s.shu with
        armed := Vector.replicate 4 [], batch := [], recloseCandidate := none } ∧
      (∃ asked : Bool, t.blu = { s.blu with reevaluation := asked } ∧
        (asked = true ↔ (s.blu.reevaluation = true ∨ s.shu.batch ≠ []))) ∧
      s0.onlyDriven t ∧
      { t with slots := s0.slots, shu := s0.shu, scu := s0.scu, blu := s0.blu,
               lines := s0.lines } = s0))

/-- A status change of a feeder, by its state: an opening the part did not ask for is an external trip, one
in OPENING confirms the trip; a close from TRIPPED or in CLOSING makes it CLOSED. The confirm deadline that
expires in OPENING or CLOSING makes it BREAKER_FAIL. The confirm deadline is cancelled when it is met, and
no other deadline differs. An external trip takes the feeder from the armed sets and the batch, and an
emptied batch asks for a re-evaluation. -/
def Obligations.FeederStatusAndConfirm : Prop :=
  (∀ (l : LineIx) (closed : Bool) (s s0 : State) (i : SlotIx) (f : Feeder),
    s.takes Message.statusShu? (l, closed) s0 → s.feeder? i = some f → f.statusLine = some l →
    (∀ j x, j ≠ i → s.feeder? j = some x → x.statusLine ≠ some l) →
    (closed = false → f.state ∈ [.closed, .tripPending] →
      ∃ t, exec .feederStatusChange s = .next t ∧
        t.feeder? i = some { f with
          state := .tripped, cause := some .external, lastChange := s.timeS } ∧
        s0.onlyBody t i false ∧
        (∀ k : StageIx, t.shu.armed[k] = s.shu.armed[k].filter (fun j => j != i)) ∧
        t.shu = { s.shu with
          armed := t.shu.armed, batch := s.shu.batch.filter (fun j => j != i) } ∧
        t.blu = { s.blu with reevaluation := s.blu.reevaluation ||
          (s.shu.batch.contains i && (s.shu.batch.filter (fun j => j != i)).isEmpty) } ∧
        s.noticedAlone t NoticeKind.externalTrip (some i.val) ∧
        { t with slots := s0.slots, shu := s0.shu, ntu := s0.ntu, blu := s0.blu } = s0) ∧
    (closed = false → f.state = .opening →
      ∃ t, exec .feederStatusChange s = .next t ∧
        t.feeder? i = some { f with
          state := .tripped, cause := f.pendingCause, pendingCause := none, lastChange := s.timeS } ∧
        s0.onlyBody t i false ∧ t.scu = (s0.cancel (.breakerConfirm i)).scu ∧
        { t with slots := s0.slots, scu := s0.scu } = s0) ∧
    (closed = true → f.state ∈ [.tripped, .closing] →
      ∃ t, exec .feederStatusChange s = .next t ∧
        t.feeder? i = some { f with state := .closed, cause := none, lastChange := s.timeS } ∧
        s0.onlyBody t i false ∧ t.mail = s0.mail ++ [.feederClosed i] ∧
        t.scu = (if f.state = .closing then s0.cancel (.breakerConfirm i) else s0).scu ∧
        { t with slots := s0.slots, scu := s0.scu, mail := s0.mail } = s0) ∧
    ((closed = false → f.state ∈ [.tripped, .closePending, .closing, .breakerFail]) →
      (closed = true → f.state ∈ [.closed, .tripPending, .opening, .closePending, .breakerFail]) →
      exec .feederStatusChange s = .next s0)) ∧
  (∀ (i : SlotIx) (s s0 : State) (f : Feeder), s.expires (.breakerConfirm i) s0 →
    s.feeder? i = some f →
    (f.state ∈ [.opening, .closing] → ∃ t, exec (.breakerConfirmExpiry i) s = .next t ∧
      t.feeder? i = some { f with
        state := .breakerFail, cause := none, pendingCause := none, lastChange := s0.timeS } ∧
      s0.onlyBody t i false ∧ s.noticedAlone t NoticeKind.breakerFail (some i.val) ∧
      t.mail = s0.mail ++ [.feederFail i] ∧
      { t with slots := s0.slots, ntu := s0.ntu, mail := s0.mail } = s0) ∧
    (f.state ∉ [.opening, .closing] → exec (.breakerConfirmExpiry i) s = .next s0))

/-- The reclose delay expiry closes the candidate in NORMAL while it meets every condition of a candidate and
LNU takes the request: the feeder is CLOSE_PENDING, or, with CLOSE_DELAY 0, the window starts at once and
it is CLOSING or CLOSED; otherwise no close is made, and in every case the candidate becomes none. The
pulse and the window of a feeder run on LNU's time: the pulse end drops the trip line and completes the
trip of a feeder without a status line, the window start drives the close line with the feeder CLOSING,
the window end drops it and completes the close of a feeder without a status line. -/
def Obligations.ReclosePulsesAndWindows : Prop :=
  (∀ s s0 : State, s.expires .recloseDelay s0 →
    (s.shu.recloseCandidate = none → exec .recloseDelayExpiry s = .next s0) ∧
    (∀ i v, s.shu.recloseCandidate = some i →
      v = { s0 with shu := { s.shu with recloseCandidate := none } } →
      ((s.blu.grid ≠ .normal ∨ s.lifecycle? i ≠ some .active ∨
          ∀ f, s.feeder? i = some f → f.state ≠ .tripped ∨ f.closeLine = none ∨
            (∀ c, f.cause = some c → c ≠ .shedReserve ∧ ∀ k, c ≠ .shedStage k) ∨
            s.lines[f.tripLine].pulse.isSome = true ∨
            ∃ l, f.closeLine = some l ∧ s.lines[l].window.isSome = true) →
        exec .recloseDelayExpiry s = .next v) ∧
      (∀ f l c, s.feeder? i = some f → f.closeLine = some l → s.blu.grid = .normal →
        f.state = .tripped → s.lifecycle? i = some .active → f.cause = some c →
        (c = .shedReserve ∨ ∃ k, c = .shedStage k) → s.lines[f.tripLine].pulse = none →
        s.lines[l].window = none →
        ∃ t, exec .recloseDelayExpiry s = .next t ∧ v.closeBegun t i f l))) ∧
  (∀ (i : SlotIx) (s : State) (f : Feeder) (e : Time), s.port.resetHeld = false →
    s.feeder? i = some f → s.lines[f.tripLine].pulse = some e →
    ∃ t s0 : State, exec (.tripPulseEnd i) s = .next t ∧ s0 = s.runTo (s.instantOf e) ∧
      t.lines = s.lines.set f.tripLine { s.lines[f.tripLine] with driven := false, pulse := none } ∧
      ((f.statusLine.isSome = true ∨ f.state ≠ .opening) → { t with lines := s.lines } = s0) ∧
      (f.statusLine = none → f.state = .opening → s.onlyBody t i false ∧
        t.feeder? i = some { f with
          state := .tripped, cause := f.pendingCause, pendingCause := none, lastChange := s0.timeS } ∧
        t.scu = (s0.cancel (.breakerConfirm i)).scu ∧ { t with lines := s.lines, slots := s.slots, scu := s0.scu } = s0)) ∧
  (∀ (i : SlotIx) (s : State) (f : Feeder) (l : LineIx) (w : CloseWindow),
    s.port.resetHeld = false → s.feeder? i = some f → f.closeLine = some l →
    s.lines[l].window = some w →
    (w.started = false → ∃ t s0 : State, exec (.closeWindowStart i) s = .next t ∧
      s0 = s.runTo (s.instantOf w.start) ∧ s.onlyBody t i false ∧
      t.lines = s.lines.set l
        { s.lines[l] with driven := true, window := some { w with started := true } } ∧
      t.feeder? i = some { f with
        state := if f.statusLine.any s.filtered then .closed else .closing, cause := none,
        lastChange := s0.timeS } ∧
      t.scu = (if f.statusLine.any (fun x => !s.filtered x) = true
        then s0.setDeadline (.breakerConfirm i) (s.param .confirmTime) else s0).scu ∧
      t.mail = s.mail ++ (if f.statusLine.any s.filtered = true then [.feederClosed i] else []) ∧
      { t with lines := s.lines, slots := s.slots, scu := s0.scu, mail := s.mail } = s0) ∧
    (w.started = true → ∃ t s0 : State, exec (.closeWindowEnd i) s = .next t ∧
      s0 = s.runTo (s.instantOf w.stop) ∧
      t.lines = s.lines.set l { s.lines[l] with driven := false, window := none } ∧
      ((f.statusLine.isSome = true ∨ f.state ≠ .closing) → { t with lines := s.lines } = s0) ∧
      (f.statusLine = none → f.state = .closing → s.onlyBody t i false ∧
        t.feeder? i = some { f with state := .closed, cause := none, lastChange := s0.timeS } ∧
        t.mail = s.mail ++ [.feederClosed i] ∧
        { t with lines := s.lines, slots := s.slots, mail := s.mail } = s0)))

/-! ### The Bus Monitor -/

/-- The deadlines of BMN. A stage delay that runs out raises its stage, with the raise handed on; the dark
timer empties the history and declares DARK with every genset breaker open, or a zero-cross loss otherwise;
the live hold declares LIVE with the frequency BMN holds in the band, or runs again; and a breaker change
that leaves every breaker open, with no edge and no DARK declared, declares DARK. That the live hold judges
the frequency held through a zero-cross loss in the same way, while the freeze stands, is the model's choice
(assumption log 56). No other deadline differs. The live hold that runs again is counted from S when BMN
takes the expiry (assumption log 59). -/
def Obligations.BusTimersDeclare : Prop :=
  (∀ (k : StageIx) (s s0 : State), s.expires (.ufStage k) s0 →
    ∃ t, exec (.ufStageDelayExpiry k) s = .next t ∧
      t.bus = { s.bus with raised := s.bus.raised.set k true } ∧
      t.mail = s.mail ++ [.stageRaiseBlu k, .stageRaiseShu k, .stageRaiseRsq k] ∧
      t.blu = { s.blu with reevaluation := true } ∧
      s.noticedAlone t NoticeKind.stageRaised (some (k.val + 1)) ∧
      { t with bus := s0.bus, mail := s0.mail, blu := s0.blu, ntu := s0.ntu } = s0) ∧
  (∀ s s0 : State, s.expires .darkTimer s0 →
    ∃ t, exec .darkTimerExpiry s = .next t ∧
      (s.allBreakersOpen = true →
        t.bus = { history := [], frequency := 0, raised := Vector.replicate 4 false, freeze := false,
                  noEdge := true, live := false, dark := true } ∧
        t.mail = s.mail ++ [.darkBlu, .darkRsq] ∧ s.noticedAlone t NoticeKind.darkDeclared none) ∧
      (s.allBreakersOpen = false →
        t.bus = { s.bus with history := [], noEdge := true, freeze := true } ∧
        t.mail = s.mail ∧ s.noticedAlone t NoticeKind.zcLost none) ∧
      t.isSet .liveHold = false ∧ (∀ k : StageIx, t.isSet (.ufStage k) = false) ∧
      (∀ key, key ≠ .liveHold → (∀ k, key ≠ .ufStage k) → s0.keepsDeadline t key) ∧
      { t with bus := s0.bus, mail := s0.mail, scu := s0.scu, ntu := s0.ntu } = s0) ∧
  (∀ s s0 : State, s.expires .liveHold s0 →
    (s.param .nominal ≤ s.bus.frequency + s.param .liveBand ∧
        s.bus.frequency ≤ s.param .nominal + s.param .liveBand →
      ∃ t, exec .liveHoldExpiry s = .next t ∧ t.bus = { s.bus with live := true } ∧
        t.mail = s.mail ++ [.liveBlu, .liveGsq, .liveRsq] ∧
        s.noticedAlone t NoticeKind.liveDeclared none ∧
        { t with bus := s0.bus, mail := s0.mail, ntu := s0.ntu } = s0) ∧
    ((s.bus.frequency + s.param .liveBand < s.param .nominal ∨
        s.param .nominal + s.param .liveBand < s.bus.frequency) →
      exec .liveHoldExpiry s = .next (s0.setDeadline .liveHold (s.param .liveHold)))) ∧
  (∀ (l : LineIx) (closed : Bool) (s s0 : State), s.takes Message.breakerBmn? (l, closed) s0 →
    ((s.bus.noEdge = false ∨ s.bus.dark = true ∨ s.allBreakersOpen = false) →
      exec .bmnBreakerChange s = .next s0) ∧
    (s.bus.noEdge = true → s.bus.dark = false → s.allBreakersOpen = true →
      ∃ t, exec .bmnBreakerChange s = .next t ∧
        t.bus = { s.bus with frequency := 0, raised := Vector.replicate 4 false, freeze := false,
                             live := false, dark := true } ∧
        t.mail = s0.mail ++ [.darkBlu, .darkRsq] ∧ s.noticedAlone t NoticeKind.darkDeclared none ∧
        (∀ k : StageIx, t.isSet (.ufStage k) = false) ∧
        (∀ key, (∀ k, key ≠ .ufStage k) → s0.keepsDeadline t key) ∧
        { t with bus := s0.bus, mail := s0.mail, scu := s0.scu, ntu := s0.ntu } = s0))

/-- A zero-cross edge: a glitch leaves BMN as it was; an accepted edge joins the history of at most five,
restarts the dark timer, ends the no-edge and DARK conditions and starts the live hold on a bus that is not
live; with five stamps the frequency is 40 000 000 000 / P4 rounded half up, or 40 000 for a P4 above 1 000
000, it ends a freeze, tests each of the four stages, and goes to RSQ; with fewer the frequency keeps its
value. The filtered level that the zero-cross line shows at the edge is the model's choice (assumption log
18); time runs on to the edge (assumption log 3), and the edge is taken only out of reset (assumption log
8). A stage below its threshold has its delay set, due the delay after S, or keeps the one it has; no
deadline but these differs. Each raise is handed to BLU, SHU and RSQ with STAGE_RAISED noticed, and each
clear to RSQ, either with a re-evaluation request, stage by stage in ascending order ahead of the frequency
(assumption log 52). -/
def Obligations.EdgesGiveTheFrequency : Prop :=
  ∀ (c : Instr) (stamp : Time) (s s0 : State), s.crosses c stamp s0 → s.bus.history.length ≤ 5 →
    0 < s.param .darkTime → 0 < s.param .liveHold →
    (s.glitch stamp → exec c s = .next s0) ∧
    (¬ s.glitch stamp → ∃ t, exec c s = .next t ∧
      t.bus.history =
        (if s.bus.history.length < 5 then s.bus.history else s.bus.history.tail) ++ [stamp] ∧
      t.bus.noEdge = false ∧ t.bus.dark = false ∧ t.bus.live = s.bus.live ∧
      (⟨.darkTimer, s0.timeS + BitVec.ofNat 32 (s.param .darkTime), none⟩ : Deadline) ∈
        t.scu.entries ∧
      (∀ d ∈ t.scu.entries, d.key = .darkTimer →
        d.due = s0.timeS + BitVec.ofNat 32 (s.param .darkTime)) ∧
      .darkTimer ∉ t.scu.delivered ∧
      ((s.bus.live = true ∨ s0.isSet .liveHold = true) → s0.keepsDeadline t .liveHold) ∧
      (s.bus.live = false → s0.isSet .liveHold = false → .liveHold ∉ t.scu.delivered ∧
        ∀ d : Deadline, d.key = .liveHold → (d ∈ t.scu.entries ↔
          d = ⟨.liveHold, s0.timeS + BitVec.ofNat 32 (s.param .liveHold), none⟩)) ∧
      (∀ key, key ≠ .darkTimer → key ≠ .liveHold →
        (s.bus.history.length < 4 ∨ ∀ k, key ≠ .ufStage k) → s0.keepsDeadline t key) ∧
      (s.bus.history.length < 4 → t.bus.frequency = s.bus.frequency ∧ t.bus.freeze = s.bus.freeze ∧
        t.bus.raised = s.bus.raised ∧ t.mail = s.mail ∧ t.ntu = s.ntu ∧ t.blu = s.blu) ∧
      (∀ oldest, 4 ≤ s.bus.history.length → t.bus.history.head? = some oldest →
        t.bus.frequency = (if 1000000 < (stamp - oldest).toNat then 40000
          else (40000000000 + (stamp - oldest).toNat / 2) / (stamp - oldest).toNat) ∧
        40000 ≤ t.bus.frequency ∧ t.bus.frequency ≤ 70000 ∧ t.bus.freeze = false ∧
        t.mail = s.mail ++ (List.finRange 4).flatMap (fun k =>
          if s.bus.raised[k] = false ∧ t.bus.raised[k] = true
            then [.stageRaiseBlu k, .stageRaiseShu k, .stageRaiseRsq k]
          else if s.bus.raised[k] = true ∧ t.bus.raised[k] = false then [.stageClearRsq k]
          else []) ++ [.frequency t.bus.frequency] ∧
        t.blu = { s.blu with reevaluation := s.blu.reevaluation ||
          (List.finRange 4).any (fun k => s.bus.raised[k] != t.bus.raised[k]) } ∧
        t.ntu = ((List.finRange 4).foldl (fun u k =>
          if s.bus.raised[k] = false ∧ t.bus.raised[k] = true
            then u.raise NoticeKind.stageRaised (some (k.val + 1)) else u) s).ntu ∧
        (∀ k : StageIx,
          (s.bus.raised[k] = true → s0.keepsDeadline t (.ufStage k) ∧
            (t.bus.raised[k] = false ↔
              s.param (.ufThreshold k) + s.param (.ufHysteresis k) ≤ t.bus.frequency)) ∧
          (s.bus.raised[k] = false → s.param (.ufThreshold k) ≤ t.bus.frequency →
            t.bus.raised[k] = false ∧ t.isSet (.ufStage k) = false) ∧
          (s.bus.raised[k] = false → t.bus.frequency < s.param (.ufThreshold k) →
            (t.bus.raised[k] = true ↔
              s0.isSet (.ufStage k) = false ∧ s.param (.ufDelay k) = 0) ∧
            ((s0.isSet (.ufStage k) = true ∨ s.param (.ufDelay k) = 0) →
              s0.keepsDeadline t (.ufStage k)) ∧
            (s0.isSet (.ufStage k) = false → s.param (.ufDelay k) ≠ 0 →
              .ufStage k ∉ t.scu.delivered ∧
              ∀ d : Deadline, d.key = .ufStage k → (d ∈ t.scu.entries ↔
                d = ⟨.ufStage k, s0.timeS + BitVec.ofNat 32 (s.param (.ufDelay k)), none⟩))))) ∧
      { t with bus := s0.bus, scu := s0.scu, mail := s0.mail, ntu := s0.ntu, blu := s0.blu } = s0)

/-! ### The Line Unit -/

/-- A filtered input: a pin that comes to differ from the filtered level starts a hold of the filter time, or
is delivered at once with a filter time of 0; a pin that returns abandons the hold; a hold that has run
delivers the new level, with the value of S, to the blocks that read the line; a rising change of the
zero-cross input starts its hold with the stamp of the rise, and a fall drops it. The model's choices: a
pin command lets the time before the change run on (assumption log 3), in reset the pin alone changes
(assumption log 8), as it does on a line that is no input, and the filtered level of the zero-cross line
is clear from a fall (assumption log 18). -/
def Obligations.PinsAreFiltered : Prop :=
  (∀ (after : Nat) (l : LineIx) (high : Bool) (s s0 : State) (level : Bool),
    s.port.resetHeld = false → s0 = s.runTo (s.now + after) →
    s.lines[l].function ∈ [LineFunction.statusIn, .readyIn, .genBreakerIn] →
    level = (high == (s.lines[l].polarity == .activeHigh)) →
    (level = s.lines[l].filtered → (∀ h, s.lines[l].hold = some h → s.now + after < h.till) →
      exec (.inputPinChange after l high) s =
        .next { s0 with lines := s.lines.set l { s.lines[l] with pin := high, hold := none } }) ∧
    (level ≠ s.lines[l].filtered → s.lines[l].hold = none → s.lines[l].filter ≠ 0 →
      exec (.inputPinChange after l high) s =
        .next { s0 with lines := s.lines.set l { s.lines[l] with
          pin := high,
          hold := some { till := s0.now + 10000 * s.lines[l].filter, stamp := s0.timeF } } }) ∧
    (level ≠ s.lines[l].filtered → ∀ h, s.lines[l].hold = some h → s.now + after < h.till →
      exec (.inputPinChange after l high) s =
        .next { s0 with lines := s.lines.set l { s.lines[l] with pin := high } }) ∧
    (level ≠ s.lines[l].filtered → s.lines[l].hold = none → s.lines[l].filter = 0 →
      ∃ more, s.delivered l level s0.timeS more ∧ exec (.inputPinChange after l high) s =
        .next { s0 with
          lines := s.lines.set l
            { s.lines[l] with pin := high, filtered := level, lastChange := some s0.timeS },
          mail := s.mail ++ more }) ∧
    (∀ h t, s.lines[l].hold = some h → h.till ≤ s.now + after →
      exec (.inputFilterExpiry l) s = .next t →
      exec (.inputPinChange after l high) s =
        exec (.inputPinChange (s.now + after - t.now) l high) t)) ∧
  (∀ (l : LineIx) (h : FilterHold) (s s0 : State), s.port.resetHeld = false →
    s.lines[l].function ∈ [LineFunction.statusIn, .readyIn, .genBreakerIn] →
    s.lines[l].hold = some h → s0 = s.runTo h.till →
    ∃ more, s.delivered l s.lines[l].level s0.timeS more ∧ exec (.inputFilterExpiry l) s =
      .next { s0 with
        lines := s.lines.set l { s.lines[l] with
          filtered := s.lines[l].level, hold := none, lastChange := some s0.timeS },
        mail := s.mail ++ more }) ∧
  (∀ (after : Nat) (l : LineIx) (high : Bool) (s s0 : State) (level : Bool),
    s.port.resetHeld = false → s0 = s.runTo (s.now + after) → s.zeroCrossLine = some l →
    level = (high == (s.lines[l].polarity == .activeHigh)) →
    (∀ h, s.lines[l].hold = some h → s.now + after < h.till) →
    exec (.inputPinChange after l high) s = exec (.zeroCrossPinChange after high) s ∧
    (level = false → exec (.zeroCrossPinChange after high) s =
      .next { s0 with lines := s.lines.set l { s.lines[l] with
        pin := high, hold := none, filtered := false } }) ∧
    (level = true → s.lines[l].level = true → exec (.zeroCrossPinChange after high) s =
      .next { s0 with lines := s.lines.set l { s.lines[l] with pin := high } }) ∧
    (level = true → s.lines[l].level = false → s.lines[l].filter ≠ 0 →
      exec (.zeroCrossPinChange after high) s =
        .next { s0 with lines := s.lines.set l { s.lines[l] with
          pin := high,
          hold := some { till := s0.now + 10 * s.lines[l].filter, stamp := s0.timeF } } })) ∧
  (∀ (after : Nat) (l : LineIx) (high : Bool) (s : State),
    (s.port.resetHeld = true → exec (.inputPinChange after l high) s =
      .next { s with lines := s.lines.set l { s.lines[l] with pin := high } }) ∧
    (s.port.resetHeld = false → s.lines[l].hold = none →
      s.lines[l].function ∈ [LineFunction.unused, .tripOut, .closeOut, .runOut, .permitOut] →
      exec (.inputPinChange after l high) s =
        .next { s.runTo (s.now + after) with
          lines := s.lines.set l { s.lines[l] with pin := high } }))

/-! ### The Field Link Controller and the Station Directory -/

/-- A poll cycle expiry: the ageing pass marks stale what has not reported within STALE_TIME, the cycle count
advances, every station with report access that is to be polled is due, and POLL_OVERRUN counts each one
due already; that its detail is the last of several late stations in the order of the directory is the
model's choice (assumption log 44). With the line free the arbiter then takes work at once. -/
def Obligations.PollCycleAgesAndMarks : Prop :=
  ∀ s s0 : State, s.expires .pollCycle s0 →
    (s.link.phase ≠ .free → ∃ t, exec .pollCycleExpiry s = .next t ∧ s.pollMarked s0 t) ∧
    (s.link.phase = .free → ∃ u t : State, exec .pollCycleExpiry s = .next t ∧ s.pollMarked s0 u ∧
      u.arbiterChooses t)

/-- When the quiet time after a transaction ends, the arbiter takes by its order: with a fairness count of
4, the due station of lowest index; else the oldest setpoint entry whose station is not UNREACHABLE; else
the oldest such UNLOAD; else the due station of lowest index; else the line stays free. What it takes leaves
its queue, or is due no longer, and is transmitted at BAUD. It chooses in the same way when a setpoint or an
UNLOAD joins its queue while the line is free; that a STOP, whose genset leaves ONLINE so, hands RSQ nothing
is the model's reading (assumption log 24). The instant at which the last byte has left, ten bits a byte at
that rate rounded up to 100 ns, is the model's reading (assumption log 10). The station of an entry is the
one the record is bound to, while it is not UNREACHABLE. -/
def Obligations.ArbiterTakesWorkInOrder : Prop :=
  (∀ (till : Nat) (s s0 : State), s.port.resetHeld = false → s.link.transaction = none →
     s.link.phase = .endGap till → s0 = s.runTo till →
     ∃ t, exec .turnaroundGapEnd s = .next t ∧
       (∀ (d : DirIx) x, s.stations[d] = some x → x.due = true →
         (∀ (e : DirIx) y, e < d → s.stations[e] = some y → y.due = false) →
         (s.link.fairness = 4 ∨ ((∀ q ∈ s.link.setpoints, s.boundReachable q.slot = none) ∧
           ∀ q ∈ s.link.commands, s.boundReachable q.slot = none)) →
         t.stations = s.stations.set d (some { x with due := false }) ∧ t.slots = s.slots ∧
         t.link = { s.link with
           transaction := some
             { address := x.address, allowance := x.allowance, gap := x.gap, errand := .poll x.units,
               baud := s.param .baud, frame := fieldFrame x.address 0x01 [], retry := false },
           phase := .sending (s0.now + (600000000 + s.param .baud - 1) / s.param .baud),
           receiving := none, fairness := 0, transmit := true,
           rate := s.param .baud }) ∧
       (∀ q x u before rest, s.link.setpoints = before ++ q :: rest →
         (∀ p ∈ before, s.boundReachable p.slot = none) → s.boundReachable q.slot = some (x, u) →
         (s.link.fairness ≠ 4 ∨ ∀ (d : DirIx) y, s.stations[d] = some y → y.due = false) →
         t.stations = s.stations ∧
         (∀ p, s.pv? q.slot = some p → t.pv? q.slot = some { p with lastSent := some q.value }) ∧
         s.onlyBody t q.slot false ∧
         t.link = { s.link with
           setpoints := (before ++ rest).filter (fun e => e.slot != q.slot),
           transaction := some
             { address := x.address, allowance := x.allowance, gap := x.gap,
               errand := .setpoint q.slot q.gen u q.value, baud := s.param .baud,
               frame := fieldFrame x.address 0x02 (u8 u ++ u16 q.value), retry := false },
           phase := .sending (s0.now + (900000000 + s.param .baud - 1) / s.param .baud),
           receiving := none, fairness := min 4 (s.link.fairness + 1), transmit := true,
           rate := s.param .baud }) ∧
       (∀ q x u before rest, s.link.commands = before ++ q :: rest →
         (∀ p ∈ s.link.setpoints, s.boundReachable p.slot = none) →
         (∀ p ∈ before, s.boundReachable p.slot = none) → s.boundReachable q.slot = some (x, u) →
         (s.link.fairness ≠ 4 ∨ ∀ (d : DirIx) y, s.stations[d] = some y → y.due = false) →
         t.stations = s.stations ∧ t.slots = s.slots ∧
         t.link = { s.link with
           commands := (before ++ rest).filter (fun e => e.slot != q.slot),
           transaction := some
             { address := x.address, allowance := x.allowance, gap := x.gap,
               errand := .unload q.slot q.gen u, baud := s.param .baud,
               frame := fieldFrame x.address 0x03 (u8 u), retry := false },
           phase := .sending (s0.now + (700000000 + s.param .baud - 1) / s.param .baud),
           receiving := none, fairness := min 4 (s.link.fairness + 1), transmit := true,
           rate := s.param .baud }) ∧
       ((∀ q ∈ s.link.setpoints, s.boundReachable q.slot = none) →
         (∀ q ∈ s.link.commands, s.boundReachable q.slot = none) →
         (∀ (d : DirIx) x, s.stations[d] = some x → x.due = false) →
         t.stations = s.stations ∧ t.slots = s.slots ∧ t.link = { s.link with phase := .free }) ∧
       { t with link := s0.link, stations := s0.stations, slots := s0.slots } = s0) ∧
  ((∀ (h : Handle) (s : State) (c : Instr) (i : SlotIx) (r : Record) (p : Pv), c = .retire h →
     s.serves c → s.resolve h = some i → s.record? i = some r → r.body = .pv p →
     r.lifecycle = .active → (∀ x u, s.boundTo i = some (x, u) → x.reach ≠ .unreachable) →
     (∀ (q : PosIx) (x : PlanStep) (k : Handle), s.rsq.steps[q] = some x → x.action.target = some k →
       s.resolve k ≠ some i) → s.link.phase = .free →
     ∃ u t : State, exec c s = .next (t.respond c .accepted []) ∧
       u.slots = s.slots.set i { gen := s.gen i, record := some { r with
         lifecycle := .retiring, body := .pv { p with setpoint := 0 } } } ∧
       (s.queued i = none → u.link = { s.link with
         setpoints := s.link.setpoints ++ [{ slot := i, gen := s.gen i, value := 0 }] }) ∧
       (s.queued i ≠ none → u.link = { s.link with
         setpoints := s.link.setpoints.map (fun e => if e.slot = i then { e with value := 0 } else e) }) ∧
       { u with slots := s.slots, link := s.link } = s ∧ u.arbiterChooses t) ∧
   (∀ (h : Handle) (s : State) (i : SlotIx) (g : Genset), s.serves (.stop h) → s.resolve h = some i →
     s.genset? i = some g → g.state = .online →
     (∃ j x, j ≠ i ∧ s.genset? j = some x ∧ x.state = .online) →
     s.lifecycle? i ≠ some .retiring → s.quiet → s.link.phase = .free →
     (∀ e ∈ s.link.commands, e.slot ≠ i) →
     ∃ u t : State, exec (.stop h) s = .next (t.respond (.stop h) .ok []) ∧
       s.sequenced u i { g with state := .unloading, onlineSince := none } ∧ s.onlyBody u i false ∧
       s.onlyLine u g.runLine ∧ u.blu.reevaluation = true ∧ u.blu.minRunMark[i] = false ∧
       u.link = { s.link with commands := s.link.commands ++ [{ slot := i, gen := s.gen i }] } ∧
       { u with slots := s.slots, lines := s.lines, scu := s.scu, blu := s.blu, link := s.link } = s ∧
       u.arbiterChooses t)) ∧
  (∀ (s : State) (i : SlotIx) (x : Station) (u : Nat), s.boundReachable i = some (x, u) ↔
    ∃ (b : Binding) (d : DirIx), (s.record? i).bind Record.binding = some b ∧
      s.stationAt b.address d x ∧ b.unit = u ∧ x.reach ≠ .unreachable)

/-- The attempts of a transaction: the allowance starts when the last byte has left; a first attempt that
fails is followed by the station's quiet time and the same frame again; a frame being received is waited
for; a second failure ends the transaction as a miss, which is counted to the station, held at
MISS_LIMIT, and leaves a setpoint unconfirmed; at MISS_LIMIT the station is UNREACHABLE, with its notice
when it was not so before. A byte is heard only while FLC does not transmit; it begins the frame being
received or goes on with it, and four character times of silence after the last byte end that frame as
not valid, an allowance or a gap that is over meanwhile taking its effect; a byte after that silence is
the first of another frame. That the bytes of a frame after its first come by the row of the first is the
model's choice (assumption log 10). -/
def Obligations.AttemptsAndMisses : Prop :=
  ∀ s : State, s.port.resetHeld = false →
    (∀ x till s0, s.link.transaction = some x → s.link.phase = .sending till → s0 = s.runTo till →
      exec .frameTransmitted s = .next { s0 with link := { s.link with
        phase := .waiting (s0.now + 10000 * x.allowance), transmit := false } }) ∧
    (∀ x till s0, s.link.transaction = some x → s.link.phase = .waiting till → s0 = s.runTo till →
      (s.link.receiving.isSome = true → exec .replyAllowanceExpiry s = .next s0) ∧
      (s.link.receiving = none → x.retry = false → exec .replyAllowanceExpiry s =
        .next { s0 with link := { s.link with phase := .retryGap (s0.now + 10000 * x.gap) } }) ∧
      (s.link.receiving = none → x.retry = true →
        (∀ i g u v, x.errand ≠ .setpoint i g u v) →
        ((∀ (d : DirIx) y, s.stations[d] = some y → y.address ≠ x.address) →
          exec .replyAllowanceExpiry s =
            .next { s0 with link := s.link.ended s0.now x.gap }) ∧
        (∀ d y, s.stationAt x.address d y →
          (y.misses + 1 < s.param .missLimit ∨ y.reach = .unreachable ∨
            ∀ i r, s.record? i = some r → r.body.kind = .pv → r.lifecycle ≠ .retiring) →
          ∃ t, exec .replyAllowanceExpiry s = .next t ∧ s.missCounted t d y ∧
            t.link = s.link.ended s0.now x.gap ∧
            { t with stations := s0.stations, link := s0.link, ntu := s0.ntu } = s0)) ∧
      (∀ d y i g u v, s.link.receiving = none → x.retry = true → s.stationAt x.address d y →
        x.errand = .setpoint i g u v →
        (y.misses + 1 < s.param .missLimit ∨ y.reach = .unreachable ∨
          ∀ i r, s.record? i = some r → r.body.kind = .pv → r.lifecycle ≠ .retiring) →
        ∃ t, exec .replyAllowanceExpiry s = .next t ∧ s.missCounted t d y ∧
          (∀ p, s.gen i = g → s.pv? i = some p →
            (s.record? i).bind Record.binding = some { address := x.address, unit := u } →
            s.onlyBody t i false ∧ t.pv? i = some { p with unconfirmed := true }) ∧
          ((s.gen i ≠ g ∨
              (s.record? i).bind Record.binding ≠ some { address := x.address, unit := u }) →
            t.slots = s.slots) ∧
          t.link = s.link.ended s0.now x.gap ∧
          { t with link := s0.link, stations := s0.stations, slots := s0.slots, ntu := s0.ntu } = s0)) ∧
    (∀ x till s0, s.link.transaction = some x → s.link.phase = .retryGap till → s0 = s.runTo till →
      (s.link.receiving.isSome = true → exec .turnaroundGapEnd s = .next s0) ∧
      (s.link.receiving = none → exec .turnaroundGapEnd s = .next { s0 with link := { s.link with
        transaction := some { x with retry := true },
        phase := .sending (s0.now + (100000000 * x.frame.length + x.baud - 1) / x.baud),
        receiving := none, transmit := true } })) ∧
    (∀ silence : Nat, silence = (400000000 + s.link.rate - 1) / s.link.rate →
      ((∀ e, s.link.receiving = some e → s.now < e + silence) →
        ((∃ till, s.link.phase = .sending till) → exec .frameFirstByteReceived s = .next s) ∧
        ((∀ till, s.link.phase ≠ .sending till) → exec .frameFirstByteReceived s =
          .next { s with link := { s.link with receiving := some s.now } })) ∧
      (∀ e t, s.link.receiving = some e → e + silence ≤ s.now → exec .frameSilenceTimeout s = .next t →
        exec .frameFirstByteReceived s = exec .frameFirstByteReceived t)) ∧
    (∀ e s0 u, s.link.receiving = some e →
      s0 = s.runTo (e + (400000000 + s.link.rate - 1) / s.link.rate) →
      u = { s0 with link := { s.link with receiving := none } } →
      (s.link.transaction = none → exec .frameSilenceTimeout s = .next u) ∧
      (∀ x till, s.link.transaction = some x → s.link.phase = .waiting till →
        (s0.now < till → exec .frameSilenceTimeout s = .next u) ∧
        (till ≤ s0.now → exec .frameSilenceTimeout s = exec .replyAllowanceExpiry u) ∧
        (till ≤ s0.now → x.retry = false → exec .frameSilenceTimeout s =
          .next { s0 with link := { s.link with
            receiving := none, phase := .retryGap (s0.now + 10000 * x.gap) } })) ∧
      (∀ x till, s.link.transaction = some x → s.link.phase = .retryGap till →
        (s0.now < till → exec .frameSilenceTimeout s = .next u) ∧
        (till ≤ s0.now → exec .frameSilenceTimeout s = exec .turnaroundGapEnd u)))

/-- A frame is told whole, as its last byte arrives (assumption log 10). One that is not valid for the
transaction in flight, by any of the four checks, is discarded: it changes nothing but the reception, and
an allowance or a gap before the retry that is over meanwhile takes its effect. A valid one, in the
allowance or in the gap before the retry, answers the transaction, ends it, and makes the station that
holds the address at the end REACHABLE (assumption log 33): an ACK leaves its value last acknowledged and
the plant confirmed, a REFUSE leaves it unconfirmed, where the record is still the one served; a reply to
an UNLOAD changes no record; and each entry of a REPORT is taken into the record of its unit, clamped and
fresh. An entry with FAULT set, whether or not it was set before (assumption log 34), takes a genset off
the crank wait list and locks it out of every state but STOPPED and LOCKOUT, a RETIRING one being freed;
that RSQ is handed the lockout alone, and no departure of a genset that was ONLINE, is the model's
reading (assumption log 24); one without FAULT whose output is at or below UNLOAD_LEVEL ends an unload;
start selection then runs, before the next entry is taken (assumption log 55), and the states it enters
start no run of their own (assumption log 23). Nothing is received while FLC transmits. -/
def Obligations.RepliesEndTheTransaction : Prop :=
  (∀ (frame : List Byte) (s u : State), s.port.resetHeld = false →
     u = { s with link := { s.link with receiving := none } } →
     ((∃ till, s.link.phase = .sending till) → exec (.fieldFrameReceived frame) s = .next s) ∧
     (s.link.transaction = none → (∀ till, s.link.phase ≠ .sending till) →
       exec (.fieldFrameReceived frame) s = .next u) ∧
     (∀ x, s.link.transaction = some x → ¬ x.answeredBy frame →
       (∀ till, s.link.phase = .waiting till →
         (s.now < till → exec (.fieldFrameReceived frame) s = .next u) ∧
         (till ≤ s.now → exec (.fieldFrameReceived frame) s = exec .replyAllowanceExpiry u)) ∧
       (∀ till, s.link.phase = .retryGap till →
         (s.now < till → exec (.fieldFrameReceived frame) s = .next u) ∧
         (till ≤ s.now → exec (.fieldFrameReceived frame) s = exec .turnaroundGapEnd u))) ∧
     (∀ x d y, s.link.transaction = some x → (∀ till, s.link.phase ≠ .sending till) →
       s.stationAt x.address d y → x.address < 256 →
       (∀ i g n v p, x.errand = .setpoint i g n v → n < 256 → v < 65536 → s.gen i = g →
         (s.record? i).bind Record.binding = some { address := x.address, unit := n } →
         s.lifecycle? i ≠ some .retiring → s.pv? i = some p →
         (frame = fieldFrame x.address 0x82 (u8 n ++ u16 v) ∨
           frame = fieldFrame x.address 0x83 (u8 n)) →
         ∃ t, exec (.fieldFrameReceived frame) s = .next t ∧
           t.link = s.link.ended s.now x.gap ∧
           t.stations = s.stations.set d (some { y with misses := 0, reach := .reachable }) ∧
           s.onlyBody t i false ∧
           (frame = fieldFrame x.address 0x82 (u8 n ++ u16 v) →
             t.pv? i = some { p with lastAck := some v, unconfirmed := false }) ∧
           (frame = fieldFrame x.address 0x83 (u8 n) →
             t.pv? i = some { p with unconfirmed := true }) ∧
           { t with link := s.link, stations := s.stations, slots := s.slots } = s) ∧
       (∀ i g n v, x.errand = .setpoint i g n v → n < 256 → v < 65536 →
         (s.gen i ≠ g ∨
           (s.record? i).bind Record.binding ≠ some { address := x.address, unit := n }) →
         (frame = fieldFrame x.address 0x82 (u8 n ++ u16 v) ∨
           frame = fieldFrame x.address 0x83 (u8 n)) →
         exec (.fieldFrameReceived frame) s = .next { s with
           link := s.link.ended s.now x.gap,
           stations := s.stations.set d (some { y with misses := 0, reach := .reachable }) }) ∧
       (∀ i g n, x.errand = .unload i g n → n < 256 →
         (frame = fieldFrame x.address 0x82 (u8 n ++ u16 0) ∨
           frame = fieldFrame x.address 0x83 (u8 n)) →
         exec (.fieldFrameReceived frame) s = .next { s with
           link := s.link.ended s.now x.gap,
           stations := s.stations.set d (some { y with misses := 0, reach := .reachable }) }) ∧
       (∀ n body, x.errand = .poll n → frame = fieldFrame x.address 0x81 body → body.length = 5 * n →
         body.length ≤ 64 →
         (∀ i j r q, i ≠ j → s.record? i = some r → s.record? j = some q → r.binding ≠ none →
           r.binding ≠ q.binding) →
         (∀ i g k flags a0 a1 b0 b1 rest, s.genset? i = some g → k < n →
           (s.record? i).bind Record.binding = some { address := x.address, unit := k } →
           body.drop (5 * k) = flags :: a0 :: a1 :: b0 :: b1 :: rest →
           flags.getLsbD 0 = false ∧ g.state ≠ .unloading) →
         ∃ t, exec (.fieldFrameReceived frame) s = .next t ∧
           t.link = s.link.ended s.now x.gap ∧
           t.stations = s.stations.set d (some { y with misses := 0, reach := .reachable }) ∧
           (∀ i r k flags a0 a1 b0 b1 rest, s.record? i = some r → k < n →
             r.binding = some { address := x.address, unit := k } →
             body.drop (5 * k) = flags :: a0 :: a1 :: b0 :: b1 :: rest →
             t.slots[i] = { gen := s.gen i,
                            record := some (r.reportTaken s.timeS flags a0 a1 b0 b1) }) ∧
           (∀ i, (∀ r k, s.record? i = some r → k < n →
               r.binding ≠ some { address := x.address, unit := k }) → t.slots[i] = s.slots[i]) ∧
           { t with link := s.link, stations := s.stations, slots := s.slots } = s))) ∧
  (∀ (frame : List Byte) (s : State) (x : Transaction) (d : DirIx) (y : Station) (n : Nat)
     (body : List Byte), s.port.resetHeld = false → s.link.transaction = some x →
     (∀ till, s.link.phase ≠ .sending till) → s.stationAt x.address d y → x.address < 256 →
     x.errand = .poll n → frame = fieldFrame x.address 0x81 body → body.length = 5 * n →
     body.length ≤ 64 →
     ∃ w, EntriesTaken x.address 0 body { s with link := s.link.ended s.now x.gap } w ∧
       exec (.fieldFrameReceived frame) s = .next { w with
         stations := s.stations.set d (some { y with misses := 0, reach := .reachable }) })
end

