-- ==== Sys2Proof/Laws/State.lean ====
section
/-! SUPPORT. What the updates of the state and the named operations over them (Machine/Ops.lean) leave unchanged: for each operation, the fields of the state that it keeps, as
simp lemmas, so that no later proof unfolds it for a field it does not touch. -/

namespace Sys2Proof.Machine

@[simp] theorem State.ite_now (c : Prop) [Decidable c] (a b : State) : (if c then a else b).now = if c
    then a.now else b.now := by
  split <;> rfl

@[simp] theorem State.ite_port (c : Prop) [Decidable c] (a b : State) : (if c then a else b).port = if c
    then a.port else b.port := by
  split <;> rfl

@[simp] theorem State.ite_ntu (c : Prop) [Decidable c] (a b : State) : (if c then a else b).ntu = if c
    then a.ntu else b.ntu := by
  split <;> rfl

@[simp] theorem State.ite_store (c : Prop) [Decidable c] (a b : State) : (if c then a else b).store = if
    c then a.store else b.store := by
  split <;> rfl

@[simp] theorem State.ite_slots (c : Prop) [Decidable c] (a b : State) : (if c then a else b).slots = if
    c then a.slots else b.slots := by
  split <;> rfl

@[simp] theorem State.ite_stations (c : Prop) [Decidable c] (a b : State) : (if c then a else
    b).stations = if c then a.stations else b.stations := by
  split <;> rfl

@[simp] theorem State.ite_link (c : Prop) [Decidable c] (a b : State) : (if c then a else b).link = if c
    then a.link else b.link := by
  split <;> rfl

@[simp] theorem State.ite_bus (c : Prop) [Decidable c] (a b : State) : (if c then a else b).bus = if c
    then a.bus else b.bus := by
  split <;> rfl

@[simp] theorem State.ite_blu (c : Prop) [Decidable c] (a b : State) : (if c then a else b).blu = if c
    then a.blu else b.blu := by
  split <;> rfl

@[simp] theorem State.ite_gsq (c : Prop) [Decidable c] (a b : State) : (if c then a else b).gsq = if c
    then a.gsq else b.gsq := by
  split <;> rfl

@[simp] theorem State.ite_shu (c : Prop) [Decidable c] (a b : State) : (if c then a else b).shu = if c
    then a.shu else b.shu := by
  split <;> rfl

@[simp] theorem State.ite_rsq (c : Prop) [Decidable c] (a b : State) : (if c then a else b).rsq = if c
    then a.rsq else b.rsq := by
  split <;> rfl

@[simp] theorem State.ite_scu (c : Prop) [Decidable c] (a b : State) : (if c then a else b).scu = if c
    then a.scu else b.scu := by
  split <;> rfl

@[simp] theorem State.ite_lines (c : Prop) [Decidable c] (a b : State) : (if c then a else b).lines = if
    c then a.lines else b.lines := by
  split <;> rfl

@[simp] theorem State.ite_params (c : Prop) [Decidable c] (a b : State) : (if c then a else b).params =
    if c then a.params else b.params := by
  split <;> rfl

@[simp] theorem State.ite_mail (c : Prop) [Decidable c] (a b : State) : (if c then a else b).mail = if c
    then a.mail else b.mail := by
  split <;> rfl

@[simp] theorem State.ite_freeCount (c : Prop) [Decidable c] (a b : State) : (if c then a else
    b).freeCount = if c then a.freeCount else b.freeCount := by
  split <;> rfl

@[simp] theorem State.ite_pending (c : Prop) [Decidable c] (a b : State) : (if c then a else b).pending
    = if c then a.pending else b.pending := by
  split <;> rfl

@[simp] theorem State.ite_param (c : Prop) [Decidable c] (a b : State) (p : Param) :
    (if c then a else b).param p = if c then a.param p else b.param p := by
  split <;> rfl

@[simp] theorem State.ite_gen (c : Prop) [Decidable c] (a b : State) (i : SlotIx) :
    (if c then a else b).gen i = if c then a.gen i else b.gen i := by
  split <;> rfl

@[simp] theorem State.ite_timeS (c : Prop) [Decidable c] (a b : State) :
    (if c then a else b).timeS = if c then a.timeS else b.timeS := by
  split <;> rfl

@[simp] theorem State.setParam_frame (p : Param) (v : Nat) (s : State) :
    (s.setParam p v).now = s.now ∧ (s.setParam p v).port = s.port ∧ (s.setParam p v).ntu = s.ntu ∧
    (s.setParam p v).store = s.store ∧ (s.setParam p v).slots = s.slots ∧
    (s.setParam p v).stations = s.stations ∧ (s.setParam p v).link = s.link ∧
    (s.setParam p v).bus = s.bus ∧ (s.setParam p v).blu = s.blu ∧ (s.setParam p v).gsq = s.gsq ∧
    (s.setParam p v).shu = s.shu ∧ (s.setParam p v).rsq = s.rsq ∧ (s.setParam p v).scu = s.scu ∧
    (s.setParam p v).lines = s.lines ∧ (s.setParam p v).mail = s.mail ∧
    (s.setParam p v).freeCount = s.freeCount ∧ (s.setParam p v).pending = s.pending ∧
    (∀ i0, (s.setParam p v).gen i0 = s.gen i0) ∧ (s.setParam p v).timeS = s.timeS ∧
    (∀ i0 : SlotIx, (s.setParam p v).slots[i0.val].gen = s.slots[i0.val].gen) := by
  simp [State.setParam, State.gen, State.timeS]

@[simp] theorem State.runTo_frame (target : Nat) (s : State) :
    (s.runTo target).port = s.port ∧ (s.runTo target).ntu = s.ntu ∧ (s.runTo target).store = s.store ∧
    (s.runTo target).slots = s.slots ∧ (s.runTo target).stations = s.stations ∧
    (s.runTo target).link = s.link ∧ (s.runTo target).bus = s.bus ∧ (s.runTo target).blu = s.blu ∧
    (s.runTo target).gsq = s.gsq ∧ (s.runTo target).shu = s.shu ∧ (s.runTo target).rsq = s.rsq ∧
    (s.runTo target).lines = s.lines ∧ (s.runTo target).params = s.params ∧
    (s.runTo target).mail = s.mail ∧ (s.runTo target).freeCount = s.freeCount ∧
    (s.runTo target).pending = s.pending ∧ (∀ p0, (s.runTo target).param p0 = s.param p0) ∧
    (∀ i0, (s.runTo target).gen i0 = s.gen i0) ∧
    (∀ i0 : SlotIx, (s.runTo target).slots[i0.val].gen = s.slots[i0.val].gen) := by
  simp [State.runTo, State.gen, State.param]

@[simp] theorem State.cancel_frame (k : DeadlineKey) (s : State) :
    (s.cancel k).now = s.now ∧ (s.cancel k).port = s.port ∧ (s.cancel k).ntu = s.ntu ∧
    (s.cancel k).store = s.store ∧ (s.cancel k).slots = s.slots ∧ (s.cancel k).stations = s.stations ∧
    (s.cancel k).link = s.link ∧ (s.cancel k).bus = s.bus ∧ (s.cancel k).blu = s.blu ∧
    (s.cancel k).gsq = s.gsq ∧ (s.cancel k).shu = s.shu ∧ (s.cancel k).rsq = s.rsq ∧
    (s.cancel k).lines = s.lines ∧ (s.cancel k).params = s.params ∧ (s.cancel k).mail = s.mail ∧
    (s.cancel k).freeCount = s.freeCount ∧ (s.cancel k).pending = s.pending ∧
    (∀ p0, (s.cancel k).param p0 = s.param p0) ∧ (∀ i0, (s.cancel k).gen i0 = s.gen i0) ∧
    (s.cancel k).timeS = s.timeS ∧
    (∀ i0 : SlotIx, (s.cancel k).slots[i0.val].gen = s.slots[i0.val].gen) := by
  simp [State.cancel, State.gen, State.param, State.timeS]

@[simp] theorem State.setDeadlineWith_frame (k : DeadlineKey) (delay : Nat) (period : Option Nat) (s :
    State) :
    (s.setDeadlineWith k delay period).now = s.now ∧ (s.setDeadlineWith k delay period).port = s.port ∧
    (s.setDeadlineWith k delay period).ntu = s.ntu ∧
    (s.setDeadlineWith k delay period).store = s.store ∧
    (s.setDeadlineWith k delay period).slots = s.slots ∧
    (s.setDeadlineWith k delay period).stations = s.stations ∧
    (s.setDeadlineWith k delay period).link = s.link ∧ (s.setDeadlineWith k delay period).bus = s.bus ∧
    (s.setDeadlineWith k delay period).blu = s.blu ∧ (s.setDeadlineWith k delay period).gsq = s.gsq ∧
    (s.setDeadlineWith k delay period).shu = s.shu ∧ (s.setDeadlineWith k delay period).rsq = s.rsq ∧
    (s.setDeadlineWith k delay period).lines = s.lines ∧
    (s.setDeadlineWith k delay period).params = s.params ∧
    (s.setDeadlineWith k delay period).mail = s.mail ∧
    (s.setDeadlineWith k delay period).freeCount = s.freeCount ∧
    (s.setDeadlineWith k delay period).pending = s.pending ∧
    (∀ p0, (s.setDeadlineWith k delay period).param p0 = s.param p0) ∧
    (∀ i0, (s.setDeadlineWith k delay period).gen i0 = s.gen i0) ∧
    (s.setDeadlineWith k delay period).timeS = s.timeS ∧
    (∀ i0 : SlotIx, (s.setDeadlineWith k delay period).slots[i0.val].gen = s.slots[i0.val].gen) := by
  simp [State.setDeadlineWith, State.gen, State.param, State.timeS]

@[simp] theorem State.setDeadline_frame (k : DeadlineKey) (delay : Nat) (s : State) :
    (s.setDeadline k delay).now = s.now ∧ (s.setDeadline k delay).port = s.port ∧
    (s.setDeadline k delay).ntu = s.ntu ∧ (s.setDeadline k delay).store = s.store ∧
    (s.setDeadline k delay).slots = s.slots ∧ (s.setDeadline k delay).stations = s.stations ∧
    (s.setDeadline k delay).link = s.link ∧ (s.setDeadline k delay).bus = s.bus ∧
    (s.setDeadline k delay).blu = s.blu ∧ (s.setDeadline k delay).gsq = s.gsq ∧
    (s.setDeadline k delay).shu = s.shu ∧ (s.setDeadline k delay).rsq = s.rsq ∧
    (s.setDeadline k delay).lines = s.lines ∧ (s.setDeadline k delay).params = s.params ∧
    (s.setDeadline k delay).mail = s.mail ∧ (s.setDeadline k delay).freeCount = s.freeCount ∧
    (s.setDeadline k delay).pending = s.pending ∧
    (∀ p0, (s.setDeadline k delay).param p0 = s.param p0) ∧
    (∀ i0, (s.setDeadline k delay).gen i0 = s.gen i0) ∧ (s.setDeadline k delay).timeS = s.timeS ∧
    (∀ i0 : SlotIx, (s.setDeadline k delay).slots[i0.val].gen = s.slots[i0.val].gen) := by
  simp [State.setDeadline, State.gen, State.param, State.timeS]

@[simp] theorem State.takeDelivered_frame (k : DeadlineKey) (s : State) :
    (s.takeDelivered k).now = s.now ∧ (s.takeDelivered k).port = s.port ∧
    (s.takeDelivered k).ntu = s.ntu ∧ (s.takeDelivered k).store = s.store ∧
    (s.takeDelivered k).slots = s.slots ∧ (s.takeDelivered k).stations = s.stations ∧
    (s.takeDelivered k).link = s.link ∧ (s.takeDelivered k).bus = s.bus ∧
    (s.takeDelivered k).blu = s.blu ∧ (s.takeDelivered k).gsq = s.gsq ∧
    (s.takeDelivered k).shu = s.shu ∧ (s.takeDelivered k).rsq = s.rsq ∧
    (s.takeDelivered k).lines = s.lines ∧ (s.takeDelivered k).params = s.params ∧
    (s.takeDelivered k).mail = s.mail ∧ (s.takeDelivered k).freeCount = s.freeCount ∧
    (s.takeDelivered k).pending = s.pending ∧ (∀ p0, (s.takeDelivered k).param p0 = s.param p0) ∧
    (∀ i0, (s.takeDelivered k).gen i0 = s.gen i0) ∧ (s.takeDelivered k).timeS = s.timeS ∧
    (∀ i0 : SlotIx, (s.takeDelivered k).slots[i0.val].gen = s.slots[i0.val].gen) := by
  simp [State.takeDelivered, State.gen, State.param, State.timeS]

@[simp] theorem State.hand_frame (m : Message) (s : State) :
    (s.hand m).now = s.now ∧ (s.hand m).port = s.port ∧ (s.hand m).ntu = s.ntu ∧
    (s.hand m).store = s.store ∧ (s.hand m).slots = s.slots ∧ (s.hand m).stations = s.stations ∧
    (s.hand m).link = s.link ∧ (s.hand m).bus = s.bus ∧ (s.hand m).blu = s.blu ∧
    (s.hand m).gsq = s.gsq ∧ (s.hand m).shu = s.shu ∧ (s.hand m).rsq = s.rsq ∧ (s.hand m).scu = s.scu ∧
    (s.hand m).lines = s.lines ∧ (s.hand m).params = s.params ∧ (s.hand m).freeCount = s.freeCount ∧
    (s.hand m).pending = s.pending ∧ (∀ p0, (s.hand m).param p0 = s.param p0) ∧
    (∀ i0, (s.hand m).gen i0 = s.gen i0) ∧ (s.hand m).timeS = s.timeS ∧
    (∀ i0 : SlotIx, (s.hand m).slots[i0.val].gen = s.slots[i0.val].gen) := by
  simp [State.hand, State.gen, State.param, State.timeS]

@[simp] theorem State.take_now {α : Type} (sel : Message → Option α) (f : α → State → State) (h : ∀ a s,
    (f a s).now = s.now) (s : State) : (s.take sel f).now = s.now := by
  unfold State.take
  split
  · exact h _ _
  · rfl

@[simp] theorem State.take_port {α : Type} (sel : Message → Option α) (f : α → State → State) (h : ∀ a
    s, (f a s).port = s.port) (s : State) : (s.take sel f).port = s.port := by
  unfold State.take
  split
  · exact h _ _
  · rfl

@[simp] theorem State.take_ntu {α : Type} (sel : Message → Option α) (f : α → State → State) (h : ∀ a s,
    (f a s).ntu = s.ntu) (s : State) : (s.take sel f).ntu = s.ntu := by
  unfold State.take
  split
  · exact h _ _
  · rfl

@[simp] theorem State.take_store {α : Type} (sel : Message → Option α) (f : α → State → State) (h : ∀ a
    s, (f a s).store = s.store) (s : State) : (s.take sel f).store = s.store := by
  unfold State.take
  split
  · exact h _ _
  · rfl

@[simp] theorem State.take_slots {α : Type} (sel : Message → Option α) (f : α → State → State) (h : ∀ a
    s, (f a s).slots = s.slots) (s : State) : (s.take sel f).slots = s.slots := by
  unfold State.take
  split
  · exact h _ _
  · rfl

@[simp] theorem State.take_stations {α : Type} (sel : Message → Option α) (f : α → State → State) (h : ∀
    a s, (f a s).stations = s.stations) (s : State) : (s.take sel f).stations = s.stations := by
  unfold State.take
  split
  · exact h _ _
  · rfl

@[simp] theorem State.take_link {α : Type} (sel : Message → Option α) (f : α → State → State) (h : ∀ a
    s, (f a s).link = s.link) (s : State) : (s.take sel f).link = s.link := by
  unfold State.take
  split
  · exact h _ _
  · rfl

@[simp] theorem State.take_bus {α : Type} (sel : Message → Option α) (f : α → State → State) (h : ∀ a s,
    (f a s).bus = s.bus) (s : State) : (s.take sel f).bus = s.bus := by
  unfold State.take
  split
  · exact h _ _
  · rfl

@[simp] theorem State.take_blu {α : Type} (sel : Message → Option α) (f : α → State → State) (h : ∀ a s,
    (f a s).blu = s.blu) (s : State) : (s.take sel f).blu = s.blu := by
  unfold State.take
  split
  · exact h _ _
  · rfl

@[simp] theorem State.take_gsq {α : Type} (sel : Message → Option α) (f : α → State → State) (h : ∀ a s,
    (f a s).gsq = s.gsq) (s : State) : (s.take sel f).gsq = s.gsq := by
  unfold State.take
  split
  · exact h _ _
  · rfl

@[simp] theorem State.take_shu {α : Type} (sel : Message → Option α) (f : α → State → State) (h : ∀ a s,
    (f a s).shu = s.shu) (s : State) : (s.take sel f).shu = s.shu := by
  unfold State.take
  split
  · exact h _ _
  · rfl

@[simp] theorem State.take_rsq {α : Type} (sel : Message → Option α) (f : α → State → State) (h : ∀ a s,
    (f a s).rsq = s.rsq) (s : State) : (s.take sel f).rsq = s.rsq := by
  unfold State.take
  split
  · exact h _ _
  · rfl

@[simp] theorem State.take_scu {α : Type} (sel : Message → Option α) (f : α → State → State) (h : ∀ a s,
    (f a s).scu = s.scu) (s : State) : (s.take sel f).scu = s.scu := by
  unfold State.take
  split
  · exact h _ _
  · rfl

@[simp] theorem State.take_lines {α : Type} (sel : Message → Option α) (f : α → State → State) (h : ∀ a
    s, (f a s).lines = s.lines) (s : State) : (s.take sel f).lines = s.lines := by
  unfold State.take
  split
  · exact h _ _
  · rfl

@[simp] theorem State.take_params {α : Type} (sel : Message → Option α) (f : α → State → State) (h : ∀ a
    s, (f a s).params = s.params) (s : State) : (s.take sel f).params = s.params := by
  unfold State.take
  split
  · exact h _ _
  · rfl

@[simp] theorem State.take_freeCount {α : Type} (sel : Message → Option α) (f : α → State → State) (h :
    ∀ a s, (f a s).freeCount = s.freeCount) (s : State) : (s.take sel f).freeCount = s.freeCount := by
  unfold State.take
  split
  · exact h _ _
  · rfl

@[simp] theorem State.take_pending {α : Type} (sel : Message → Option α) (f : α → State → State) (h : ∀
    a s, (f a s).pending = s.pending) (s : State) : (s.take sel f).pending = s.pending := by
  unfold State.take
  split
  · exact h _ _
  · rfl

@[simp] theorem State.take_param {α : Type} (sel : Message → Option α) (f : α → State → State) (h : ∀ a
    s, (∀ p0, (f a s).param p0 = s.param p0)) (s : State) : (∀ p0, (s.take sel f).param p0 = s.param p0)
    := by
  intro q
  unfold State.take
  split
  · exact h _ _ q
  · rfl

@[simp] theorem State.take_gen {α : Type} (sel : Message → Option α) (f : α → State → State) (h : ∀ a s,
    (∀ i0, (f a s).gen i0 = s.gen i0)) (s : State) : (∀ i0, (s.take sel f).gen i0 = s.gen i0) := by
  intro q
  unfold State.take
  split
  · exact h _ _ q
  · rfl

@[simp] theorem State.take_timeS {α : Type} (sel : Message → Option α) (f : α → State → State) (h : ∀ a
    s, (f a s).timeS = s.timeS) (s : State) : (s.take sel f).timeS = s.timeS := by
  unfold State.take
  split
  · exact h _ _
  · rfl

@[simp] theorem State.take_sgen {α : Type} (sel : Message → Option α) (f : α → State → State) (h : ∀ a
    s, (∀ i0 : SlotIx, (f a s).slots[i0.val].gen = s.slots[i0.val].gen)) (s : State) : (∀ i0 : SlotIx,
    (s.take sel f).slots[i0.val].gen = s.slots[i0.val].gen) := by
  intro q
  unfold State.take
  split
  · exact h _ _ q
  · rfl

@[simp] theorem State.awake_now (f : State → State) (h : ∀ s, (f s).now = s.now) (s : State) : (s.awake
    f).now = s.now := by
  unfold State.awake
  split <;> simp [h]

@[simp] theorem State.awake_port (f : State → State) (h : ∀ s, (f s).port = s.port) (s : State) :
    (s.awake f).port = s.port := by
  unfold State.awake
  split <;> simp [h]

@[simp] theorem State.awake_ntu (f : State → State) (h : ∀ s, (f s).ntu = s.ntu) (s : State) : (s.awake
    f).ntu = s.ntu := by
  unfold State.awake
  split <;> simp [h]

@[simp] theorem State.awake_store (f : State → State) (h : ∀ s, (f s).store = s.store) (s : State) :
    (s.awake f).store = s.store := by
  unfold State.awake
  split <;> simp [h]

@[simp] theorem State.awake_slots (f : State → State) (h : ∀ s, (f s).slots = s.slots) (s : State) :
    (s.awake f).slots = s.slots := by
  unfold State.awake
  split <;> simp [h]

@[simp] theorem State.awake_stations (f : State → State) (h : ∀ s, (f s).stations = s.stations) (s :
    State) : (s.awake f).stations = s.stations := by
  unfold State.awake
  split <;> simp [h]

@[simp] theorem State.awake_link (f : State → State) (h : ∀ s, (f s).link = s.link) (s : State) :
    (s.awake f).link = s.link := by
  unfold State.awake
  split <;> simp [h]

@[simp] theorem State.awake_bus (f : State → State) (h : ∀ s, (f s).bus = s.bus) (s : State) : (s.awake
    f).bus = s.bus := by
  unfold State.awake
  split <;> simp [h]

@[simp] theorem State.awake_blu (f : State → State) (h : ∀ s, (f s).blu = s.blu) (s : State) : (s.awake
    f).blu = s.blu := by
  unfold State.awake
  split <;> simp [h]

@[simp] theorem State.awake_gsq (f : State → State) (h : ∀ s, (f s).gsq = s.gsq) (s : State) : (s.awake
    f).gsq = s.gsq := by
  unfold State.awake
  split <;> simp [h]

@[simp] theorem State.awake_shu (f : State → State) (h : ∀ s, (f s).shu = s.shu) (s : State) : (s.awake
    f).shu = s.shu := by
  unfold State.awake
  split <;> simp [h]

@[simp] theorem State.awake_rsq (f : State → State) (h : ∀ s, (f s).rsq = s.rsq) (s : State) : (s.awake
    f).rsq = s.rsq := by
  unfold State.awake
  split <;> simp [h]

@[simp] theorem State.awake_scu (f : State → State) (h : ∀ s, (f s).scu = s.scu) (s : State) : (s.awake
    f).scu = s.scu := by
  unfold State.awake
  split <;> simp [h]

@[simp] theorem State.awake_lines (f : State → State) (h : ∀ s, (f s).lines = s.lines) (s : State) :
    (s.awake f).lines = s.lines := by
  unfold State.awake
  split <;> simp [h]

@[simp] theorem State.awake_params (f : State → State) (h : ∀ s, (f s).params = s.params) (s : State) :
    (s.awake f).params = s.params := by
  unfold State.awake
  split <;> simp [h]

@[simp] theorem State.awake_mail (f : State → State) (h : ∀ s, (f s).mail = s.mail) (s : State) :
    (s.awake f).mail = s.mail := by
  unfold State.awake
  split <;> simp [h]

@[simp] theorem State.awake_freeCount (f : State → State) (h : ∀ s, (f s).freeCount = s.freeCount) (s :
    State) : (s.awake f).freeCount = s.freeCount := by
  unfold State.awake
  split <;> simp [h]

@[simp] theorem State.awake_pending (f : State → State) (h : ∀ s, (f s).pending = s.pending) (s : State)
    : (s.awake f).pending = s.pending := by
  unfold State.awake
  split <;> simp [h]

@[simp] theorem State.awake_param (f : State → State) (h : ∀ s, (∀ p0, (f s).param p0 = s.param p0)) (s
    : State) : (∀ p0, (s.awake f).param p0 = s.param p0) := by
  unfold State.awake
  split <;> simp [h]

@[simp] theorem State.awake_gen (f : State → State) (h : ∀ s, (∀ i0, (f s).gen i0 = s.gen i0)) (s :
    State) : (∀ i0, (s.awake f).gen i0 = s.gen i0) := by
  unfold State.awake
  split <;> simp [h]

@[simp] theorem State.awake_timeS (f : State → State) (h : ∀ s, (f s).timeS = s.timeS) (s : State) :
    (s.awake f).timeS = s.timeS := by
  unfold State.awake
  split <;> simp [h]

@[simp] theorem State.awake_sgen (f : State → State) (h : ∀ s, (∀ i0 : SlotIx, (f s).slots[i0.val].gen =
    s.slots[i0.val].gen)) (s : State) : (∀ i0 : SlotIx, (s.awake f).slots[i0.val].gen =
    s.slots[i0.val].gen) := by
  unfold State.awake
  split <;> simp [h]

theorem State.expire_port {k : DeadlineKey} {s t : State} (h : s.expire k = some t) : (t).port = s.port
    := by
  unfold State.expire at h
  split at h
  · cases h; simp
  · split at h
    · cases h; simp
    · cases h
theorem State.expire_ntu {k : DeadlineKey} {s t : State} (h : s.expire k = some t) : (t).ntu = s.ntu := by
  unfold State.expire at h
  split at h
  · cases h; simp
  · split at h
    · cases h; simp
    · cases h
theorem State.expire_store {k : DeadlineKey} {s t : State} (h : s.expire k = some t) : (t).store =
    s.store := by
  unfold State.expire at h
  split at h
  · cases h; simp
  · split at h
    · cases h; simp
    · cases h
theorem State.expire_slots {k : DeadlineKey} {s t : State} (h : s.expire k = some t) : (t).slots =
    s.slots := by
  unfold State.expire at h
  split at h
  · cases h; simp
  · split at h
    · cases h; simp
    · cases h
theorem State.expire_stations {k : DeadlineKey} {s t : State} (h : s.expire k = some t) : (t).stations =
    s.stations := by
  unfold State.expire at h
  split at h
  · cases h; simp
  · split at h
    · cases h; simp
    · cases h
theorem State.expire_link {k : DeadlineKey} {s t : State} (h : s.expire k = some t) : (t).link = s.link
    := by
  unfold State.expire at h
  split at h
  · cases h; simp
  · split at h
    · cases h; simp
    · cases h
theorem State.expire_bus {k : DeadlineKey} {s t : State} (h : s.expire k = some t) : (t).bus = s.bus := by
  unfold State.expire at h
  split at h
  · cases h; simp
  · split at h
    · cases h; simp
    · cases h
theorem State.expire_blu {k : DeadlineKey} {s t : State} (h : s.expire k = some t) : (t).blu = s.blu := by
  unfold State.expire at h
  split at h
  · cases h; simp
  · split at h
    · cases h; simp
    · cases h
theorem State.expire_gsq {k : DeadlineKey} {s t : State} (h : s.expire k = some t) : (t).gsq = s.gsq := by
  unfold State.expire at h
  split at h
  · cases h; simp
  · split at h
    · cases h; simp
    · cases h
theorem State.expire_shu {k : DeadlineKey} {s t : State} (h : s.expire k = some t) : (t).shu = s.shu := by
  unfold State.expire at h
  split at h
  · cases h; simp
  · split at h
    · cases h; simp
    · cases h
theorem State.expire_rsq {k : DeadlineKey} {s t : State} (h : s.expire k = some t) : (t).rsq = s.rsq := by
  unfold State.expire at h
  split at h
  · cases h; simp
  · split at h
    · cases h; simp
    · cases h
theorem State.expire_lines {k : DeadlineKey} {s t : State} (h : s.expire k = some t) : (t).lines =
    s.lines := by
  unfold State.expire at h
  split at h
  · cases h; simp
  · split at h
    · cases h; simp
    · cases h
theorem State.expire_params {k : DeadlineKey} {s t : State} (h : s.expire k = some t) : (t).params =
    s.params := by
  unfold State.expire at h
  split at h
  · cases h; simp
  · split at h
    · cases h; simp
    · cases h
theorem State.expire_mail {k : DeadlineKey} {s t : State} (h : s.expire k = some t) : (t).mail = s.mail
    := by
  unfold State.expire at h
  split at h
  · cases h; simp
  · split at h
    · cases h; simp
    · cases h
theorem State.expire_freeCount {k : DeadlineKey} {s t : State} (h : s.expire k = some t) : (t).freeCount
    = s.freeCount := by
  unfold State.expire at h
  split at h
  · cases h; simp
  · split at h
    · cases h; simp
    · cases h
theorem State.expire_pending {k : DeadlineKey} {s t : State} (h : s.expire k = some t) : (t).pending =
    s.pending := by
  unfold State.expire at h
  split at h
  · cases h; simp
  · split at h
    · cases h; simp
    · cases h
theorem State.expire_param {k : DeadlineKey} {s t : State} (h : s.expire k = some t) : (∀ p0, (t).param
    p0 = s.param p0) := by
  unfold State.expire at h
  split at h
  · cases h; simp
  · split at h
    · cases h; simp
    · cases h
theorem State.expire_gen {k : DeadlineKey} {s t : State} (h : s.expire k = some t) : (∀ i0, (t).gen i0 =
    s.gen i0) := by
  unfold State.expire at h
  split at h
  · cases h; simp
  · split at h
    · cases h; simp
    · cases h
theorem State.expire_sgen {k : DeadlineKey} {s t : State} (h : s.expire k = some t) : (∀ i0 : SlotIx,
    (t).slots[i0.val].gen = s.slots[i0.val].gen) := by
  unfold State.expire at h
  split at h
  · cases h; simp
  · split at h
    · cases h; simp
    · cases h

@[simp] theorem State.onExpiry_port (k : DeadlineKey) (f : State → State) (h : ∀ s, (f s).port = s.port)
    (s : State) : (s.onExpiry k f).port = s.port := by
  unfold State.onExpiry
  apply State.awake_port
  intro s
  split
  · rename_i s1 h1
    simp [h, State.expire_port h1]
  · simp

@[simp] theorem State.onExpiry_ntu (k : DeadlineKey) (f : State → State) (h : ∀ s, (f s).ntu = s.ntu) (s
    : State) : (s.onExpiry k f).ntu = s.ntu := by
  unfold State.onExpiry
  apply State.awake_ntu
  intro s
  split
  · rename_i s1 h1
    simp [h, State.expire_ntu h1]
  · simp

@[simp] theorem State.onExpiry_store (k : DeadlineKey) (f : State → State) (h : ∀ s, (f s).store =
    s.store) (s : State) : (s.onExpiry k f).store = s.store := by
  unfold State.onExpiry
  apply State.awake_store
  intro s
  split
  · rename_i s1 h1
    simp [h, State.expire_store h1]
  · simp

@[simp] theorem State.onExpiry_slots (k : DeadlineKey) (f : State → State) (h : ∀ s, (f s).slots =
    s.slots) (s : State) : (s.onExpiry k f).slots = s.slots := by
  unfold State.onExpiry
  apply State.awake_slots
  intro s
  split
  · rename_i s1 h1
    simp [h, State.expire_slots h1]
  · simp

@[simp] theorem State.onExpiry_stations (k : DeadlineKey) (f : State → State) (h : ∀ s, (f s).stations =
    s.stations) (s : State) : (s.onExpiry k f).stations = s.stations := by
  unfold State.onExpiry
  apply State.awake_stations
  intro s
  split
  · rename_i s1 h1
    simp [h, State.expire_stations h1]
  · simp

@[simp] theorem State.onExpiry_link (k : DeadlineKey) (f : State → State) (h : ∀ s, (f s).link = s.link)
    (s : State) : (s.onExpiry k f).link = s.link := by
  unfold State.onExpiry
  apply State.awake_link
  intro s
  split
  · rename_i s1 h1
    simp [h, State.expire_link h1]
  · simp

@[simp] theorem State.onExpiry_bus (k : DeadlineKey) (f : State → State) (h : ∀ s, (f s).bus = s.bus) (s
    : State) : (s.onExpiry k f).bus = s.bus := by
  unfold State.onExpiry
  apply State.awake_bus
  intro s
  split
  · rename_i s1 h1
    simp [h, State.expire_bus h1]
  · simp

@[simp] theorem State.onExpiry_blu (k : DeadlineKey) (f : State → State) (h : ∀ s, (f s).blu = s.blu) (s
    : State) : (s.onExpiry k f).blu = s.blu := by
  unfold State.onExpiry
  apply State.awake_blu
  intro s
  split
  · rename_i s1 h1
    simp [h, State.expire_blu h1]
  · simp

@[simp] theorem State.onExpiry_gsq (k : DeadlineKey) (f : State → State) (h : ∀ s, (f s).gsq = s.gsq) (s
    : State) : (s.onExpiry k f).gsq = s.gsq := by
  unfold State.onExpiry
  apply State.awake_gsq
  intro s
  split
  · rename_i s1 h1
    simp [h, State.expire_gsq h1]
  · simp

@[simp] theorem State.onExpiry_shu (k : DeadlineKey) (f : State → State) (h : ∀ s, (f s).shu = s.shu) (s
    : State) : (s.onExpiry k f).shu = s.shu := by
  unfold State.onExpiry
  apply State.awake_shu
  intro s
  split
  · rename_i s1 h1
    simp [h, State.expire_shu h1]
  · simp

@[simp] theorem State.onExpiry_rsq (k : DeadlineKey) (f : State → State) (h : ∀ s, (f s).rsq = s.rsq) (s
    : State) : (s.onExpiry k f).rsq = s.rsq := by
  unfold State.onExpiry
  apply State.awake_rsq
  intro s
  split
  · rename_i s1 h1
    simp [h, State.expire_rsq h1]
  · simp

@[simp] theorem State.onExpiry_lines (k : DeadlineKey) (f : State → State) (h : ∀ s, (f s).lines =
    s.lines) (s : State) : (s.onExpiry k f).lines = s.lines := by
  unfold State.onExpiry
  apply State.awake_lines
  intro s
  split
  · rename_i s1 h1
    simp [h, State.expire_lines h1]
  · simp

@[simp] theorem State.onExpiry_params (k : DeadlineKey) (f : State → State) (h : ∀ s, (f s).params =
    s.params) (s : State) : (s.onExpiry k f).params = s.params := by
  unfold State.onExpiry
  apply State.awake_params
  intro s
  split
  · rename_i s1 h1
    simp [h, State.expire_params h1]
  · simp

@[simp] theorem State.onExpiry_mail (k : DeadlineKey) (f : State → State) (h : ∀ s, (f s).mail = s.mail)
    (s : State) : (s.onExpiry k f).mail = s.mail := by
  unfold State.onExpiry
  apply State.awake_mail
  intro s
  split
  · rename_i s1 h1
    simp [h, State.expire_mail h1]
  · simp

@[simp] theorem State.onExpiry_freeCount (k : DeadlineKey) (f : State → State) (h : ∀ s, (f s).freeCount
    = s.freeCount) (s : State) : (s.onExpiry k f).freeCount = s.freeCount := by
  unfold State.onExpiry
  apply State.awake_freeCount
  intro s
  split
  · rename_i s1 h1
    simp [h, State.expire_freeCount h1]
  · simp

@[simp] theorem State.onExpiry_pending (k : DeadlineKey) (f : State → State) (h : ∀ s, (f s).pending =
    s.pending) (s : State) : (s.onExpiry k f).pending = s.pending := by
  unfold State.onExpiry
  apply State.awake_pending
  intro s
  split
  · rename_i s1 h1
    simp [h, State.expire_pending h1]
  · simp

@[simp] theorem State.onExpiry_param (k : DeadlineKey) (f : State → State) (h : ∀ s, (∀ p0, (f s).param
    p0 = s.param p0)) (s : State) : (∀ p0, (s.onExpiry k f).param p0 = s.param p0) := by
  unfold State.onExpiry
  apply State.awake_param
  intro s
  split
  · rename_i s1 h1
    simp [h, State.expire_param h1]
  · simp

@[simp] theorem State.onExpiry_gen (k : DeadlineKey) (f : State → State) (h : ∀ s, (∀ i0, (f s).gen i0 =
    s.gen i0)) (s : State) : (∀ i0, (s.onExpiry k f).gen i0 = s.gen i0) := by
  unfold State.onExpiry
  apply State.awake_gen
  intro s
  split
  · rename_i s1 h1
    simp [h, State.expire_gen h1]
  · simp

@[simp] theorem State.onExpiry_sgen (k : DeadlineKey) (f : State → State) (h : ∀ s, (∀ i0 : SlotIx, (f
    s).slots[i0.val].gen = s.slots[i0.val].gen)) (s : State) : (∀ i0 : SlotIx, (s.onExpiry k
    f).slots[i0.val].gen = s.slots[i0.val].gen) := by
  unfold State.onExpiry
  apply State.awake_sgen
  intro s
  split
  · rename_i s1 h1
    simp [h, State.expire_sgen h1]
  · simp

@[simp] theorem State.putRecord_frame (i : SlotIx) (r : Record) (s : State) :
    (s.putRecord i r).now = s.now ∧ (s.putRecord i r).port = s.port ∧ (s.putRecord i r).ntu = s.ntu ∧
    (s.putRecord i r).store = s.store ∧ (s.putRecord i r).stations = s.stations ∧
    (s.putRecord i r).link = s.link ∧ (s.putRecord i r).bus = s.bus ∧ (s.putRecord i r).blu = s.blu ∧
    (s.putRecord i r).gsq = s.gsq ∧ (s.putRecord i r).shu = s.shu ∧ (s.putRecord i r).rsq = s.rsq ∧
    (s.putRecord i r).scu = s.scu ∧ (s.putRecord i r).lines = s.lines ∧
    (s.putRecord i r).params = s.params ∧ (s.putRecord i r).mail = s.mail ∧
    (s.putRecord i r).freeCount = s.freeCount ∧ (s.putRecord i r).pending = s.pending ∧
    (∀ p0, (s.putRecord i r).param p0 = s.param p0) ∧ (∀ i0, (s.putRecord i r).gen i0 = s.gen i0) ∧
    (s.putRecord i r).timeS = s.timeS ∧
    (∀ i0 : SlotIx, (s.putRecord i r).slots[i0.val].gen = s.slots[i0.val].gen) := by
  and_intros
  all_goals first
    | rfl
    | (intro q; rfl)
    | (intro q
       simp only [State.gen, State.putRecord, Fin.getElem_fin, Vector.getElem_set]
       split
       · rename_i hq; simp [Fin.ext hq]
       · rfl)

@[simp] theorem State.modRecord_frame (i : SlotIx) (f : Record → Record) (s : State) :
    (s.modRecord i f).now = s.now ∧ (s.modRecord i f).port = s.port ∧ (s.modRecord i f).ntu = s.ntu ∧
    (s.modRecord i f).store = s.store ∧ (s.modRecord i f).stations = s.stations ∧
    (s.modRecord i f).link = s.link ∧ (s.modRecord i f).bus = s.bus ∧ (s.modRecord i f).blu = s.blu ∧
    (s.modRecord i f).gsq = s.gsq ∧ (s.modRecord i f).shu = s.shu ∧ (s.modRecord i f).rsq = s.rsq ∧
    (s.modRecord i f).scu = s.scu ∧ (s.modRecord i f).lines = s.lines ∧
    (s.modRecord i f).params = s.params ∧ (s.modRecord i f).mail = s.mail ∧
    (s.modRecord i f).freeCount = s.freeCount ∧ (s.modRecord i f).pending = s.pending ∧
    (∀ p0, (s.modRecord i f).param p0 = s.param p0) ∧ (∀ i0, (s.modRecord i f).gen i0 = s.gen i0) ∧
    (s.modRecord i f).timeS = s.timeS ∧
    (∀ i0 : SlotIx, (s.modRecord i f).slots[i0.val].gen = s.slots[i0.val].gen) := by
  unfold State.modRecord
  split <;> simp [State.gen, State.param, State.timeS]

@[simp] theorem State.modGenset_frame (i : SlotIx) (f : Genset → Genset) (s : State) :
    (s.modGenset i f).now = s.now ∧ (s.modGenset i f).port = s.port ∧ (s.modGenset i f).ntu = s.ntu ∧
    (s.modGenset i f).store = s.store ∧ (s.modGenset i f).stations = s.stations ∧
    (s.modGenset i f).link = s.link ∧ (s.modGenset i f).bus = s.bus ∧ (s.modGenset i f).blu = s.blu ∧
    (s.modGenset i f).gsq = s.gsq ∧ (s.modGenset i f).shu = s.shu ∧ (s.modGenset i f).rsq = s.rsq ∧
    (s.modGenset i f).scu = s.scu ∧ (s.modGenset i f).lines = s.lines ∧
    (s.modGenset i f).params = s.params ∧ (s.modGenset i f).mail = s.mail ∧
    (s.modGenset i f).freeCount = s.freeCount ∧ (s.modGenset i f).pending = s.pending ∧
    (∀ p0, (s.modGenset i f).param p0 = s.param p0) ∧ (∀ i0, (s.modGenset i f).gen i0 = s.gen i0) ∧
    (s.modGenset i f).timeS = s.timeS ∧
    (∀ i0 : SlotIx, (s.modGenset i f).slots[i0.val].gen = s.slots[i0.val].gen) := by
  simp [State.modGenset, State.gen, State.param, State.timeS]

@[simp] theorem State.modPv_frame (i : SlotIx) (f : Pv → Pv) (s : State) :
    (s.modPv i f).now = s.now ∧ (s.modPv i f).port = s.port ∧ (s.modPv i f).ntu = s.ntu ∧
    (s.modPv i f).store = s.store ∧ (s.modPv i f).stations = s.stations ∧ (s.modPv i f).link = s.link ∧
    (s.modPv i f).bus = s.bus ∧ (s.modPv i f).blu = s.blu ∧ (s.modPv i f).gsq = s.gsq ∧
    (s.modPv i f).shu = s.shu ∧ (s.modPv i f).rsq = s.rsq ∧ (s.modPv i f).scu = s.scu ∧
    (s.modPv i f).lines = s.lines ∧ (s.modPv i f).params = s.params ∧ (s.modPv i f).mail = s.mail ∧
    (s.modPv i f).freeCount = s.freeCount ∧ (s.modPv i f).pending = s.pending ∧
    (∀ p0, (s.modPv i f).param p0 = s.param p0) ∧ (∀ i0, (s.modPv i f).gen i0 = s.gen i0) ∧
    (s.modPv i f).timeS = s.timeS ∧
    (∀ i0 : SlotIx, (s.modPv i f).slots[i0.val].gen = s.slots[i0.val].gen) := by
  simp [State.modPv, State.gen, State.param, State.timeS]

@[simp] theorem State.modFeeder_frame (i : SlotIx) (f : Feeder → Feeder) (s : State) :
    (s.modFeeder i f).now = s.now ∧ (s.modFeeder i f).port = s.port ∧ (s.modFeeder i f).ntu = s.ntu ∧
    (s.modFeeder i f).store = s.store ∧ (s.modFeeder i f).stations = s.stations ∧
    (s.modFeeder i f).link = s.link ∧ (s.modFeeder i f).bus = s.bus ∧ (s.modFeeder i f).blu = s.blu ∧
    (s.modFeeder i f).gsq = s.gsq ∧ (s.modFeeder i f).shu = s.shu ∧ (s.modFeeder i f).rsq = s.rsq ∧
    (s.modFeeder i f).scu = s.scu ∧ (s.modFeeder i f).lines = s.lines ∧
    (s.modFeeder i f).params = s.params ∧ (s.modFeeder i f).mail = s.mail ∧
    (s.modFeeder i f).freeCount = s.freeCount ∧ (s.modFeeder i f).pending = s.pending ∧
    (∀ p0, (s.modFeeder i f).param p0 = s.param p0) ∧ (∀ i0, (s.modFeeder i f).gen i0 = s.gen i0) ∧
    (s.modFeeder i f).timeS = s.timeS ∧
    (∀ i0 : SlotIx, (s.modFeeder i f).slots[i0.val].gen = s.slots[i0.val].gen) := by
  simp [State.modFeeder, State.gen, State.param, State.timeS]

@[simp] theorem State.each_now {α : Type} (items : List α) (f : α → State → State) (h : ∀ a s, (f a
    s).now = s.now) (s : State) : (s.each items f).now = s.now := by
  unfold State.each
  induction items generalizing s with
  | nil => simp
  | cons a l ih => simp [ih, h]

@[simp] theorem State.each_port {α : Type} (items : List α) (f : α → State → State) (h : ∀ a s, (f a
    s).port = s.port) (s : State) : (s.each items f).port = s.port := by
  unfold State.each
  induction items generalizing s with
  | nil => simp
  | cons a l ih => simp [ih, h]

@[simp] theorem State.each_ntu {α : Type} (items : List α) (f : α → State → State) (h : ∀ a s, (f a
    s).ntu = s.ntu) (s : State) : (s.each items f).ntu = s.ntu := by
  unfold State.each
  induction items generalizing s with
  | nil => simp
  | cons a l ih => simp [ih, h]

@[simp] theorem State.each_store {α : Type} (items : List α) (f : α → State → State) (h : ∀ a s, (f a
    s).store = s.store) (s : State) : (s.each items f).store = s.store := by
  unfold State.each
  induction items generalizing s with
  | nil => simp
  | cons a l ih => simp [ih, h]

@[simp] theorem State.each_slots {α : Type} (items : List α) (f : α → State → State) (h : ∀ a s, (f a
    s).slots = s.slots) (s : State) : (s.each items f).slots = s.slots := by
  unfold State.each
  induction items generalizing s with
  | nil => simp
  | cons a l ih => simp [ih, h]

@[simp] theorem State.each_stations {α : Type} (items : List α) (f : α → State → State) (h : ∀ a s, (f a
    s).stations = s.stations) (s : State) : (s.each items f).stations = s.stations := by
  unfold State.each
  induction items generalizing s with
  | nil => simp
  | cons a l ih => simp [ih, h]

@[simp] theorem State.each_link {α : Type} (items : List α) (f : α → State → State) (h : ∀ a s, (f a
    s).link = s.link) (s : State) : (s.each items f).link = s.link := by
  unfold State.each
  induction items generalizing s with
  | nil => simp
  | cons a l ih => simp [ih, h]

@[simp] theorem State.each_bus {α : Type} (items : List α) (f : α → State → State) (h : ∀ a s, (f a
    s).bus = s.bus) (s : State) : (s.each items f).bus = s.bus := by
  unfold State.each
  induction items generalizing s with
  | nil => simp
  | cons a l ih => simp [ih, h]

@[simp] theorem State.each_blu {α : Type} (items : List α) (f : α → State → State) (h : ∀ a s, (f a
    s).blu = s.blu) (s : State) : (s.each items f).blu = s.blu := by
  unfold State.each
  induction items generalizing s with
  | nil => simp
  | cons a l ih => simp [ih, h]

@[simp] theorem State.each_gsq {α : Type} (items : List α) (f : α → State → State) (h : ∀ a s, (f a
    s).gsq = s.gsq) (s : State) : (s.each items f).gsq = s.gsq := by
  unfold State.each
  induction items generalizing s with
  | nil => simp
  | cons a l ih => simp [ih, h]

@[simp] theorem State.each_shu {α : Type} (items : List α) (f : α → State → State) (h : ∀ a s, (f a
    s).shu = s.shu) (s : State) : (s.each items f).shu = s.shu := by
  unfold State.each
  induction items generalizing s with
  | nil => simp
  | cons a l ih => simp [ih, h]

@[simp] theorem State.each_rsq {α : Type} (items : List α) (f : α → State → State) (h : ∀ a s, (f a
    s).rsq = s.rsq) (s : State) : (s.each items f).rsq = s.rsq := by
  unfold State.each
  induction items generalizing s with
  | nil => simp
  | cons a l ih => simp [ih, h]

@[simp] theorem State.each_scu {α : Type} (items : List α) (f : α → State → State) (h : ∀ a s, (f a
    s).scu = s.scu) (s : State) : (s.each items f).scu = s.scu := by
  unfold State.each
  induction items generalizing s with
  | nil => simp
  | cons a l ih => simp [ih, h]

@[simp] theorem State.each_lines {α : Type} (items : List α) (f : α → State → State) (h : ∀ a s, (f a
    s).lines = s.lines) (s : State) : (s.each items f).lines = s.lines := by
  unfold State.each
  induction items generalizing s with
  | nil => simp
  | cons a l ih => simp [ih, h]

@[simp] theorem State.each_params {α : Type} (items : List α) (f : α → State → State) (h : ∀ a s, (f a
    s).params = s.params) (s : State) : (s.each items f).params = s.params := by
  unfold State.each
  induction items generalizing s with
  | nil => simp
  | cons a l ih => simp [ih, h]

@[simp] theorem State.each_mail {α : Type} (items : List α) (f : α → State → State) (h : ∀ a s, (f a
    s).mail = s.mail) (s : State) : (s.each items f).mail = s.mail := by
  unfold State.each
  induction items generalizing s with
  | nil => simp
  | cons a l ih => simp [ih, h]

@[simp] theorem State.each_freeCount {α : Type} (items : List α) (f : α → State → State) (h : ∀ a s, (f
    a s).freeCount = s.freeCount) (s : State) : (s.each items f).freeCount = s.freeCount := by
  unfold State.each
  induction items generalizing s with
  | nil => simp
  | cons a l ih => simp [ih, h]

@[simp] theorem State.each_pending {α : Type} (items : List α) (f : α → State → State) (h : ∀ a s, (f a
    s).pending = s.pending) (s : State) : (s.each items f).pending = s.pending := by
  unfold State.each
  induction items generalizing s with
  | nil => simp
  | cons a l ih => simp [ih, h]

@[simp] theorem State.each_param {α : Type} (items : List α) (f : α → State → State) (h : ∀ a s, (∀ p0,
    (f a s).param p0 = s.param p0)) (s : State) : (∀ p0, (s.each items f).param p0 = s.param p0) := by
  unfold State.each
  induction items generalizing s with
  | nil => simp
  | cons a l ih => simp [ih, h]

@[simp] theorem State.each_gen {α : Type} (items : List α) (f : α → State → State) (h : ∀ a s, (∀ i0, (f
    a s).gen i0 = s.gen i0)) (s : State) : (∀ i0, (s.each items f).gen i0 = s.gen i0) := by
  unfold State.each
  induction items generalizing s with
  | nil => simp
  | cons a l ih => simp [ih, h]

@[simp] theorem State.each_timeS {α : Type} (items : List α) (f : α → State → State) (h : ∀ a s, (f a
    s).timeS = s.timeS) (s : State) : (s.each items f).timeS = s.timeS := by
  unfold State.each
  induction items generalizing s with
  | nil => simp
  | cons a l ih => simp [ih, h]

@[simp] theorem State.each_sgen {α : Type} (items : List α) (f : α → State → State) (h : ∀ a s, (∀ i0 :
    SlotIx, (f a s).slots[i0.val].gen = s.slots[i0.val].gen)) (s : State) : (∀ i0 : SlotIx, (s.each
    items f).slots[i0.val].gen = s.slots[i0.val].gen) := by
  unfold State.each
  induction items generalizing s with
  | nil => simp
  | cons a l ih => simp [ih, h]

@[simp] theorem State.modLine_frame (l : LineIx) (f : Line → Line) (s : State) :
    (s.modLine l f).now = s.now ∧ (s.modLine l f).port = s.port ∧ (s.modLine l f).ntu = s.ntu ∧
    (s.modLine l f).store = s.store ∧ (s.modLine l f).slots = s.slots ∧
    (s.modLine l f).stations = s.stations ∧ (s.modLine l f).link = s.link ∧
    (s.modLine l f).bus = s.bus ∧ (s.modLine l f).blu = s.blu ∧ (s.modLine l f).gsq = s.gsq ∧
    (s.modLine l f).shu = s.shu ∧ (s.modLine l f).rsq = s.rsq ∧ (s.modLine l f).scu = s.scu ∧
    (s.modLine l f).params = s.params ∧ (s.modLine l f).mail = s.mail ∧
    (s.modLine l f).freeCount = s.freeCount ∧ (s.modLine l f).pending = s.pending ∧
    (∀ p0, (s.modLine l f).param p0 = s.param p0) ∧ (∀ i0, (s.modLine l f).gen i0 = s.gen i0) ∧
    (s.modLine l f).timeS = s.timeS ∧
    (∀ i0 : SlotIx, (s.modLine l f).slots[i0.val].gen = s.slots[i0.val].gen) := by
  simp [State.modLine, State.gen, State.param, State.timeS]

@[simp] theorem State.drive_frame (l : LineIx) (active : Bool) (s : State) :
    (s.drive l active).now = s.now ∧ (s.drive l active).port = s.port ∧
    (s.drive l active).ntu = s.ntu ∧ (s.drive l active).store = s.store ∧
    (s.drive l active).slots = s.slots ∧ (s.drive l active).stations = s.stations ∧
    (s.drive l active).link = s.link ∧ (s.drive l active).bus = s.bus ∧
    (s.drive l active).blu = s.blu ∧ (s.drive l active).gsq = s.gsq ∧ (s.drive l active).shu = s.shu ∧
    (s.drive l active).rsq = s.rsq ∧ (s.drive l active).scu = s.scu ∧
    (s.drive l active).params = s.params ∧ (s.drive l active).mail = s.mail ∧
    (s.drive l active).freeCount = s.freeCount ∧ (s.drive l active).pending = s.pending ∧
    (∀ p0, (s.drive l active).param p0 = s.param p0) ∧ (∀ i0, (s.drive l active).gen i0 = s.gen i0) ∧
    (s.drive l active).timeS = s.timeS ∧
    (∀ i0 : SlotIx, (s.drive l active).slots[i0.val].gen = s.slots[i0.val].gen) := by
  simp [State.drive, State.gen, State.param, State.timeS]

@[simp] theorem State.releaseLine_frame (l : LineIx) (s : State) :
    (s.releaseLine l).now = s.now ∧ (s.releaseLine l).port = s.port ∧ (s.releaseLine l).ntu = s.ntu ∧
    (s.releaseLine l).store = s.store ∧ (s.releaseLine l).slots = s.slots ∧
    (s.releaseLine l).stations = s.stations ∧ (s.releaseLine l).link = s.link ∧
    (s.releaseLine l).bus = s.bus ∧ (s.releaseLine l).blu = s.blu ∧ (s.releaseLine l).gsq = s.gsq ∧
    (s.releaseLine l).shu = s.shu ∧ (s.releaseLine l).rsq = s.rsq ∧ (s.releaseLine l).scu = s.scu ∧
    (s.releaseLine l).params = s.params ∧ (s.releaseLine l).mail = s.mail ∧
    (s.releaseLine l).freeCount = s.freeCount ∧ (s.releaseLine l).pending = s.pending ∧
    (∀ p0, (s.releaseLine l).param p0 = s.param p0) ∧ (∀ i0, (s.releaseLine l).gen i0 = s.gen i0) ∧
    (s.releaseLine l).timeS = s.timeS ∧
    (∀ i0 : SlotIx, (s.releaseLine l).slots[i0.val].gen = s.slots[i0.val].gen) := by
  simp [State.releaseLine, State.gen, State.param, State.timeS]

end Sys2Proof.Machine
end

