-- ==== Sys2Proof/Laws/FrameFlags.lean ====
section
/-! SUPPORT. What the notices (Machine/Flags.lean) leave unchanged: for each operation, the fields of the state that it keeps, as
simp lemmas, so that no later proof unfolds it for a field it does not touch. -/

namespace Sys2Proof.Machine

@[simp] theorem State.judge_frame (s : State) :
    s.judge.now = s.now ∧ s.judge.port = s.port ∧ s.judge.store = s.store ∧ s.judge.slots = s.slots ∧
    s.judge.stations = s.stations ∧ s.judge.link = s.link ∧ s.judge.bus = s.bus ∧ s.judge.blu = s.blu ∧
    s.judge.gsq = s.gsq ∧ s.judge.shu = s.shu ∧ s.judge.rsq = s.rsq ∧ s.judge.scu = s.scu ∧
    s.judge.lines = s.lines ∧ s.judge.params = s.params ∧ s.judge.mail = s.mail ∧
    s.judge.freeCount = s.freeCount ∧ s.judge.pending = s.pending ∧
    (∀ p0, s.judge.param p0 = s.param p0) ∧ (∀ i0, s.judge.gen i0 = s.gen i0) ∧
    s.judge.timeS = s.timeS ∧ (∀ i0 : SlotIx, s.judge.slots[i0.val].gen = s.slots[i0.val].gen) := by
  simp [State.judge, State.gen, State.param, State.timeS]

@[simp] theorem State.raise_frame (k : NoticeIx) (detail : Option Nat) (s : State) :
    (s.raise k detail).now = s.now ∧ (s.raise k detail).port = s.port ∧
    (s.raise k detail).store = s.store ∧ (s.raise k detail).slots = s.slots ∧
    (s.raise k detail).stations = s.stations ∧ (s.raise k detail).link = s.link ∧
    (s.raise k detail).bus = s.bus ∧ (s.raise k detail).blu = s.blu ∧ (s.raise k detail).gsq = s.gsq ∧
    (s.raise k detail).shu = s.shu ∧ (s.raise k detail).rsq = s.rsq ∧ (s.raise k detail).scu = s.scu ∧
    (s.raise k detail).lines = s.lines ∧ (s.raise k detail).params = s.params ∧
    (s.raise k detail).mail = s.mail ∧ (s.raise k detail).freeCount = s.freeCount ∧
    (s.raise k detail).pending = s.pending ∧ (∀ p0, (s.raise k detail).param p0 = s.param p0) ∧
    (∀ i0, (s.raise k detail).gen i0 = s.gen i0) ∧ (s.raise k detail).timeS = s.timeS ∧
    (∀ i0 : SlotIx, (s.raise k detail).slots[i0.val].gen = s.slots[i0.val].gen) := by
  simp [State.raise, State.gen, State.param, State.timeS]

@[simp] theorem State.raiseSlot_frame (k : NoticeIx) (i : SlotIx) (s : State) :
    (s.raiseSlot k i).now = s.now ∧ (s.raiseSlot k i).port = s.port ∧
    (s.raiseSlot k i).store = s.store ∧ (s.raiseSlot k i).slots = s.slots ∧
    (s.raiseSlot k i).stations = s.stations ∧ (s.raiseSlot k i).link = s.link ∧
    (s.raiseSlot k i).bus = s.bus ∧ (s.raiseSlot k i).blu = s.blu ∧ (s.raiseSlot k i).gsq = s.gsq ∧
    (s.raiseSlot k i).shu = s.shu ∧ (s.raiseSlot k i).rsq = s.rsq ∧ (s.raiseSlot k i).scu = s.scu ∧
    (s.raiseSlot k i).lines = s.lines ∧ (s.raiseSlot k i).params = s.params ∧
    (s.raiseSlot k i).mail = s.mail ∧ (s.raiseSlot k i).freeCount = s.freeCount ∧
    (s.raiseSlot k i).pending = s.pending ∧ (∀ p0, (s.raiseSlot k i).param p0 = s.param p0) ∧
    (∀ i0, (s.raiseSlot k i).gen i0 = s.gen i0) ∧ (s.raiseSlot k i).timeS = s.timeS ∧
    (∀ i0 : SlotIx, (s.raiseSlot k i).slots[i0.val].gen = s.slots[i0.val].gen) := by
  simp [State.raiseSlot, State.gen, State.param, State.timeS]

@[simp] theorem State.setStageShort_frame (k : StageIx) (short : Bool) (s : State) :
    (s.setStageShort k short).now = s.now ∧ (s.setStageShort k short).port = s.port ∧
    (s.setStageShort k short).store = s.store ∧ (s.setStageShort k short).slots = s.slots ∧
    (s.setStageShort k short).stations = s.stations ∧ (s.setStageShort k short).link = s.link ∧
    (s.setStageShort k short).bus = s.bus ∧ (s.setStageShort k short).blu = s.blu ∧
    (s.setStageShort k short).gsq = s.gsq ∧ (s.setStageShort k short).rsq = s.rsq ∧
    (s.setStageShort k short).scu = s.scu ∧ (s.setStageShort k short).lines = s.lines ∧
    (s.setStageShort k short).params = s.params ∧ (s.setStageShort k short).mail = s.mail ∧
    (s.setStageShort k short).freeCount = s.freeCount ∧ (s.setStageShort k short).pending = s.pending ∧
    (∀ p0, (s.setStageShort k short).param p0 = s.param p0) ∧
    (∀ i0, (s.setStageShort k short).gen i0 = s.gen i0) ∧ (s.setStageShort k short).timeS = s.timeS ∧
    (∀ i0 : SlotIx, (s.setStageShort k short).slots[i0.val].gen = s.slots[i0.val].gen) := by
  simp [State.setStageShort, State.gen, State.param, State.timeS]

@[simp] theorem State.setReserveShort_frame (short : Bool) (s : State) :
    (s.setReserveShort short).now = s.now ∧ (s.setReserveShort short).port = s.port ∧
    (s.setReserveShort short).store = s.store ∧ (s.setReserveShort short).slots = s.slots ∧
    (s.setReserveShort short).stations = s.stations ∧ (s.setReserveShort short).link = s.link ∧
    (s.setReserveShort short).bus = s.bus ∧ (s.setReserveShort short).blu = s.blu ∧
    (s.setReserveShort short).gsq = s.gsq ∧ (s.setReserveShort short).rsq = s.rsq ∧
    (s.setReserveShort short).scu = s.scu ∧ (s.setReserveShort short).lines = s.lines ∧
    (s.setReserveShort short).params = s.params ∧ (s.setReserveShort short).mail = s.mail ∧
    (s.setReserveShort short).freeCount = s.freeCount ∧ (s.setReserveShort short).pending = s.pending ∧
    (∀ p0, (s.setReserveShort short).param p0 = s.param p0) ∧
    (∀ i0, (s.setReserveShort short).gen i0 = s.gen i0) ∧ (s.setReserveShort short).timeS = s.timeS ∧
    (∀ i0 : SlotIx, (s.setReserveShort short).slots[i0.val].gen = s.slots[i0.val].gen) := by
  simp [State.setReserveShort, State.gen, State.param, State.timeS]

end Sys2Proof.Machine
end

