-- ==== Sys2Proof/Laws/FramePort.lean ====
section
/-! SUPPORT. What the responses (Machine/Port.lean) leave unchanged: for each operation, the fields of the state that it keeps, as
simp lemmas, so that no later proof unfolds it for a field it does not touch. -/

namespace Sys2Proof.Machine

@[simp] theorem State.respond_frame (c : Instr) (status : Status) (body : List Byte) (s : State) :
    (s.respond c status body).now = s.now ∧ (s.respond c status body).ntu = s.ntu ∧
    (s.respond c status body).store = s.store ∧ (s.respond c status body).slots = s.slots ∧
    (s.respond c status body).stations = s.stations ∧ (s.respond c status body).link = s.link ∧
    (s.respond c status body).bus = s.bus ∧ (s.respond c status body).blu = s.blu ∧
    (s.respond c status body).gsq = s.gsq ∧ (s.respond c status body).shu = s.shu ∧
    (s.respond c status body).rsq = s.rsq ∧ (s.respond c status body).scu = s.scu ∧
    (s.respond c status body).lines = s.lines ∧ (s.respond c status body).params = s.params ∧
    (s.respond c status body).mail = s.mail ∧ (s.respond c status body).pending = s.pending ∧
    (∀ p0, (s.respond c status body).param p0 = s.param p0) ∧
    (∀ i0, (s.respond c status body).gen i0 = s.gen i0) ∧ (s.respond c status body).timeS = s.timeS ∧
    (∀ i0 : SlotIx, (s.respond c status body).slots[i0.val].gen = s.slots[i0.val].gen) := by
  simp [State.respond, State.gen, State.param, State.timeS]

@[simp] theorem State.refuse_frame (c : Instr) (status : Status) (s : State) :
    (s.refuse c status).now = s.now ∧ (s.refuse c status).ntu = s.ntu ∧
    (s.refuse c status).store = s.store ∧ (s.refuse c status).slots = s.slots ∧
    (s.refuse c status).stations = s.stations ∧ (s.refuse c status).link = s.link ∧
    (s.refuse c status).bus = s.bus ∧ (s.refuse c status).blu = s.blu ∧
    (s.refuse c status).gsq = s.gsq ∧ (s.refuse c status).shu = s.shu ∧
    (s.refuse c status).rsq = s.rsq ∧ (s.refuse c status).scu = s.scu ∧
    (s.refuse c status).lines = s.lines ∧ (s.refuse c status).params = s.params ∧
    (s.refuse c status).mail = s.mail ∧ (s.refuse c status).pending = s.pending ∧
    (∀ p0, (s.refuse c status).param p0 = s.param p0) ∧ (∀ i0, (s.refuse c status).gen i0 = s.gen i0) ∧
    (s.refuse c status).timeS = s.timeS ∧
    (∀ i0 : SlotIx, (s.refuse c status).slots[i0.val].gen = s.slots[i0.val].gen) := by
  simp [State.refuse, State.gen, State.param, State.timeS]

@[simp] theorem State.serve_now (c : Instr) (f : State → State) (h : ∀ s, (f s).now = s.now) (s : State)
    : (s.serve c f).now = s.now := by
  unfold State.serve
  apply State.awake_now
  intro s
  split
  · split <;> simp [h]
  · simp [h]

@[simp] theorem State.serve_port (c : Instr) (f : State → State) (h : ∀ s, (f s).port = s.port) (s :
    State) : (s.serve c f).port = s.port := by
  unfold State.serve
  apply State.awake_port
  intro s
  split
  · split <;> simp [h]
  · simp [h]

@[simp] theorem State.serve_ntu (c : Instr) (f : State → State) (h : ∀ s, (f s).ntu = s.ntu) (s : State)
    : (s.serve c f).ntu = s.ntu := by
  unfold State.serve
  apply State.awake_ntu
  intro s
  split
  · split <;> simp [h]
  · simp [h]

@[simp] theorem State.serve_store (c : Instr) (f : State → State) (h : ∀ s, (f s).store = s.store) (s :
    State) : (s.serve c f).store = s.store := by
  unfold State.serve
  apply State.awake_store
  intro s
  split
  · split <;> simp [h]
  · simp [h]

@[simp] theorem State.serve_slots (c : Instr) (f : State → State) (h : ∀ s, (f s).slots = s.slots) (s :
    State) : (s.serve c f).slots = s.slots := by
  unfold State.serve
  apply State.awake_slots
  intro s
  split
  · split <;> simp [h]
  · simp [h]

@[simp] theorem State.serve_stations (c : Instr) (f : State → State) (h : ∀ s, (f s).stations =
    s.stations) (s : State) : (s.serve c f).stations = s.stations := by
  unfold State.serve
  apply State.awake_stations
  intro s
  split
  · split <;> simp [h]
  · simp [h]

@[simp] theorem State.serve_link (c : Instr) (f : State → State) (h : ∀ s, (f s).link = s.link) (s :
    State) : (s.serve c f).link = s.link := by
  unfold State.serve
  apply State.awake_link
  intro s
  split
  · split <;> simp [h]
  · simp [h]

@[simp] theorem State.serve_bus (c : Instr) (f : State → State) (h : ∀ s, (f s).bus = s.bus) (s : State)
    : (s.serve c f).bus = s.bus := by
  unfold State.serve
  apply State.awake_bus
  intro s
  split
  · split <;> simp [h]
  · simp [h]

@[simp] theorem State.serve_blu (c : Instr) (f : State → State) (h : ∀ s, (f s).blu = s.blu) (s : State)
    : (s.serve c f).blu = s.blu := by
  unfold State.serve
  apply State.awake_blu
  intro s
  split
  · split <;> simp [h]
  · simp [h]

@[simp] theorem State.serve_gsq (c : Instr) (f : State → State) (h : ∀ s, (f s).gsq = s.gsq) (s : State)
    : (s.serve c f).gsq = s.gsq := by
  unfold State.serve
  apply State.awake_gsq
  intro s
  split
  · split <;> simp [h]
  · simp [h]

@[simp] theorem State.serve_shu (c : Instr) (f : State → State) (h : ∀ s, (f s).shu = s.shu) (s : State)
    : (s.serve c f).shu = s.shu := by
  unfold State.serve
  apply State.awake_shu
  intro s
  split
  · split <;> simp [h]
  · simp [h]

@[simp] theorem State.serve_rsq (c : Instr) (f : State → State) (h : ∀ s, (f s).rsq = s.rsq) (s : State)
    : (s.serve c f).rsq = s.rsq := by
  unfold State.serve
  apply State.awake_rsq
  intro s
  split
  · split <;> simp [h]
  · simp [h]

@[simp] theorem State.serve_scu (c : Instr) (f : State → State) (h : ∀ s, (f s).scu = s.scu) (s : State)
    : (s.serve c f).scu = s.scu := by
  unfold State.serve
  apply State.awake_scu
  intro s
  split
  · split <;> simp [h]
  · simp [h]

@[simp] theorem State.serve_lines (c : Instr) (f : State → State) (h : ∀ s, (f s).lines = s.lines) (s :
    State) : (s.serve c f).lines = s.lines := by
  unfold State.serve
  apply State.awake_lines
  intro s
  split
  · split <;> simp [h]
  · simp [h]

@[simp] theorem State.serve_params (c : Instr) (f : State → State) (h : ∀ s, (f s).params = s.params) (s
    : State) : (s.serve c f).params = s.params := by
  unfold State.serve
  apply State.awake_params
  intro s
  split
  · split <;> simp [h]
  · simp [h]

@[simp] theorem State.serve_mail (c : Instr) (f : State → State) (h : ∀ s, (f s).mail = s.mail) (s :
    State) : (s.serve c f).mail = s.mail := by
  unfold State.serve
  apply State.awake_mail
  intro s
  split
  · split <;> simp [h]
  · simp [h]

@[simp] theorem State.serve_freeCount (c : Instr) (f : State → State) (h : ∀ s, (f s).freeCount =
    s.freeCount) (s : State) : (s.serve c f).freeCount = s.freeCount := by
  unfold State.serve
  apply State.awake_freeCount
  intro s
  split
  · split <;> simp [h]
  · simp [h]

@[simp] theorem State.serve_pending (c : Instr) (f : State → State) (h : ∀ s, (f s).pending = s.pending)
    (s : State) : (s.serve c f).pending = s.pending := by
  unfold State.serve
  apply State.awake_pending
  intro s
  split
  · split <;> simp [h]
  · simp [h]

@[simp] theorem State.serve_param (c : Instr) (f : State → State) (h : ∀ s, (∀ p0, (f s).param p0 =
    s.param p0)) (s : State) : (∀ p0, (s.serve c f).param p0 = s.param p0) := by
  unfold State.serve
  apply State.awake_param
  intro s
  split
  · split <;> simp [h]
  · simp [h]

@[simp] theorem State.serve_gen (c : Instr) (f : State → State) (h : ∀ s, (∀ i0, (f s).gen i0 = s.gen
    i0)) (s : State) : (∀ i0, (s.serve c f).gen i0 = s.gen i0) := by
  unfold State.serve
  apply State.awake_gen
  intro s
  split
  · split <;> simp [h]
  · simp [h]

@[simp] theorem State.serve_timeS (c : Instr) (f : State → State) (h : ∀ s, (f s).timeS = s.timeS) (s :
    State) : (s.serve c f).timeS = s.timeS := by
  unfold State.serve
  apply State.awake_timeS
  intro s
  split
  · split <;> simp [h]
  · simp [h]

@[simp] theorem State.serve_sgen (c : Instr) (f : State → State) (h : ∀ s, (∀ i0 : SlotIx, (f
    s).slots[i0.val].gen = s.slots[i0.val].gen)) (s : State) : (∀ i0 : SlotIx, (s.serve c
    f).slots[i0.val].gen = s.slots[i0.val].gen) := by
  unfold State.serve
  apply State.awake_sgen
  intro s
  split
  · split <;> simp [h]
  · simp [h]

@[simp] theorem State.withKind_now (c : Instr) (h : Handle) (k : Kind) (f : SlotIx → State → State) (hf
    : ∀ i s, (f i s).now = s.now) (s : State) : (s.withKind c h k f).now = s.now := by
  unfold State.withKind
  split
  · simp
  · split <;> simp [hf]

@[simp] theorem State.withKind_ntu (c : Instr) (h : Handle) (k : Kind) (f : SlotIx → State → State) (hf
    : ∀ i s, (f i s).ntu = s.ntu) (s : State) : (s.withKind c h k f).ntu = s.ntu := by
  unfold State.withKind
  split
  · simp
  · split <;> simp [hf]

@[simp] theorem State.withKind_store (c : Instr) (h : Handle) (k : Kind) (f : SlotIx → State → State)
    (hf : ∀ i s, (f i s).store = s.store) (s : State) : (s.withKind c h k f).store = s.store := by
  unfold State.withKind
  split
  · simp
  · split <;> simp [hf]

@[simp] theorem State.withKind_slots (c : Instr) (h : Handle) (k : Kind) (f : SlotIx → State → State)
    (hf : ∀ i s, (f i s).slots = s.slots) (s : State) : (s.withKind c h k f).slots = s.slots := by
  unfold State.withKind
  split
  · simp
  · split <;> simp [hf]

@[simp] theorem State.withKind_stations (c : Instr) (h : Handle) (k : Kind) (f : SlotIx → State → State)
    (hf : ∀ i s, (f i s).stations = s.stations) (s : State) : (s.withKind c h k f).stations = s.stations
    := by
  unfold State.withKind
  split
  · simp
  · split <;> simp [hf]

@[simp] theorem State.withKind_link (c : Instr) (h : Handle) (k : Kind) (f : SlotIx → State → State) (hf
    : ∀ i s, (f i s).link = s.link) (s : State) : (s.withKind c h k f).link = s.link := by
  unfold State.withKind
  split
  · simp
  · split <;> simp [hf]

@[simp] theorem State.withKind_bus (c : Instr) (h : Handle) (k : Kind) (f : SlotIx → State → State) (hf
    : ∀ i s, (f i s).bus = s.bus) (s : State) : (s.withKind c h k f).bus = s.bus := by
  unfold State.withKind
  split
  · simp
  · split <;> simp [hf]

@[simp] theorem State.withKind_blu (c : Instr) (h : Handle) (k : Kind) (f : SlotIx → State → State) (hf
    : ∀ i s, (f i s).blu = s.blu) (s : State) : (s.withKind c h k f).blu = s.blu := by
  unfold State.withKind
  split
  · simp
  · split <;> simp [hf]

@[simp] theorem State.withKind_gsq (c : Instr) (h : Handle) (k : Kind) (f : SlotIx → State → State) (hf
    : ∀ i s, (f i s).gsq = s.gsq) (s : State) : (s.withKind c h k f).gsq = s.gsq := by
  unfold State.withKind
  split
  · simp
  · split <;> simp [hf]

@[simp] theorem State.withKind_shu (c : Instr) (h : Handle) (k : Kind) (f : SlotIx → State → State) (hf
    : ∀ i s, (f i s).shu = s.shu) (s : State) : (s.withKind c h k f).shu = s.shu := by
  unfold State.withKind
  split
  · simp
  · split <;> simp [hf]

@[simp] theorem State.withKind_rsq (c : Instr) (h : Handle) (k : Kind) (f : SlotIx → State → State) (hf
    : ∀ i s, (f i s).rsq = s.rsq) (s : State) : (s.withKind c h k f).rsq = s.rsq := by
  unfold State.withKind
  split
  · simp
  · split <;> simp [hf]

@[simp] theorem State.withKind_scu (c : Instr) (h : Handle) (k : Kind) (f : SlotIx → State → State) (hf
    : ∀ i s, (f i s).scu = s.scu) (s : State) : (s.withKind c h k f).scu = s.scu := by
  unfold State.withKind
  split
  · simp
  · split <;> simp [hf]

@[simp] theorem State.withKind_lines (c : Instr) (h : Handle) (k : Kind) (f : SlotIx → State → State)
    (hf : ∀ i s, (f i s).lines = s.lines) (s : State) : (s.withKind c h k f).lines = s.lines := by
  unfold State.withKind
  split
  · simp
  · split <;> simp [hf]

@[simp] theorem State.withKind_params (c : Instr) (h : Handle) (k : Kind) (f : SlotIx → State → State)
    (hf : ∀ i s, (f i s).params = s.params) (s : State) : (s.withKind c h k f).params = s.params := by
  unfold State.withKind
  split
  · simp
  · split <;> simp [hf]

@[simp] theorem State.withKind_mail (c : Instr) (h : Handle) (k : Kind) (f : SlotIx → State → State) (hf
    : ∀ i s, (f i s).mail = s.mail) (s : State) : (s.withKind c h k f).mail = s.mail := by
  unfold State.withKind
  split
  · simp
  · split <;> simp [hf]

@[simp] theorem State.withKind_pending (c : Instr) (h : Handle) (k : Kind) (f : SlotIx → State → State)
    (hf : ∀ i s, (f i s).pending = s.pending) (s : State) : (s.withKind c h k f).pending = s.pending :=
    by
  unfold State.withKind
  split
  · simp
  · split <;> simp [hf]

@[simp] theorem State.withKind_param (c : Instr) (h : Handle) (k : Kind) (f : SlotIx → State → State)
    (hf : ∀ i s, (∀ p0, (f i s).param p0 = s.param p0)) (s : State) : (∀ p0, (s.withKind c h k f).param
    p0 = s.param p0) := by
  unfold State.withKind
  split
  · simp
  · split <;> simp [hf]

@[simp] theorem State.withKind_gen (c : Instr) (h : Handle) (k : Kind) (f : SlotIx → State → State) (hf
    : ∀ i s, (∀ i0, (f i s).gen i0 = s.gen i0)) (s : State) : (∀ i0, (s.withKind c h k f).gen i0 = s.gen
    i0) := by
  unfold State.withKind
  split
  · simp
  · split <;> simp [hf]

@[simp] theorem State.withKind_timeS (c : Instr) (h : Handle) (k : Kind) (f : SlotIx → State → State)
    (hf : ∀ i s, (f i s).timeS = s.timeS) (s : State) : (s.withKind c h k f).timeS = s.timeS := by
  unfold State.withKind
  split
  · simp
  · split <;> simp [hf]

@[simp] theorem State.withKind_sgen (c : Instr) (h : Handle) (k : Kind) (f : SlotIx → State → State) (hf
    : ∀ i s, (∀ i0 : SlotIx, (f i s).slots[i0.val].gen = s.slots[i0.val].gen)) (s : State) : (∀ i0 :
    SlotIx, (s.withKind c h k f).slots[i0.val].gen = s.slots[i0.val].gen) := by
  unfold State.withKind
  split
  · simp
  · split <;> simp [hf]

end Sys2Proof.Machine
end

