-- ==== Sys2Proof/Laws/FrameLines.lean ====
section
/-! SUPPORT. What the lines (Machine/Lines.lean) leave unchanged: for each operation, the fields of the state that it keeps, as
simp lemmas, so that no later proof unfolds it for a field it does not touch. -/

namespace Sys2Proof.Machine

@[simp] theorem State.endWindowForTrip_frame (f : Feeder) (s : State) :
    (s.endWindowForTrip f).now = s.now ∧ (s.endWindowForTrip f).port = s.port ∧
    (s.endWindowForTrip f).ntu = s.ntu ∧ (s.endWindowForTrip f).store = s.store ∧
    (s.endWindowForTrip f).slots = s.slots ∧ (s.endWindowForTrip f).stations = s.stations ∧
    (s.endWindowForTrip f).link = s.link ∧ (s.endWindowForTrip f).bus = s.bus ∧
    (s.endWindowForTrip f).blu = s.blu ∧ (s.endWindowForTrip f).gsq = s.gsq ∧
    (s.endWindowForTrip f).shu = s.shu ∧ (s.endWindowForTrip f).rsq = s.rsq ∧
    (s.endWindowForTrip f).scu = s.scu ∧ (s.endWindowForTrip f).params = s.params ∧
    (s.endWindowForTrip f).mail = s.mail ∧ (s.endWindowForTrip f).freeCount = s.freeCount ∧
    (s.endWindowForTrip f).pending = s.pending ∧ (∀ p0, (s.endWindowForTrip f).param p0 = s.param p0) ∧
    (∀ i0, (s.endWindowForTrip f).gen i0 = s.gen i0) ∧ (s.endWindowForTrip f).timeS = s.timeS ∧
    (∀ i0 : SlotIx, (s.endWindowForTrip f).slots[i0.val].gen = s.slots[i0.val].gen) := by
  unfold State.endWindowForTrip
  split <;> simp [State.gen, State.param, State.timeS]

@[simp] theorem State.tripRequest_frame (f : Feeder) (s : State) :
    (s.tripRequest f).now = s.now ∧ (s.tripRequest f).port = s.port ∧ (s.tripRequest f).ntu = s.ntu ∧
    (s.tripRequest f).store = s.store ∧ (s.tripRequest f).slots = s.slots ∧
    (s.tripRequest f).stations = s.stations ∧ (s.tripRequest f).link = s.link ∧
    (s.tripRequest f).bus = s.bus ∧ (s.tripRequest f).blu = s.blu ∧ (s.tripRequest f).gsq = s.gsq ∧
    (s.tripRequest f).shu = s.shu ∧ (s.tripRequest f).rsq = s.rsq ∧ (s.tripRequest f).scu = s.scu ∧
    (s.tripRequest f).params = s.params ∧ (s.tripRequest f).mail = s.mail ∧
    (s.tripRequest f).freeCount = s.freeCount ∧ (s.tripRequest f).pending = s.pending ∧
    (∀ p0, (s.tripRequest f).param p0 = s.param p0) ∧ (∀ i0, (s.tripRequest f).gen i0 = s.gen i0) ∧
    (s.tripRequest f).timeS = s.timeS ∧
    (∀ i0 : SlotIx, (s.tripRequest f).slots[i0.val].gen = s.slots[i0.val].gen) := by
  simp [State.tripRequest, State.gen, State.param, State.timeS]

@[simp] theorem State.openWindow_frame (c : LineIx) (s : State) :
    (s.openWindow c).now = s.now ∧ (s.openWindow c).port = s.port ∧ (s.openWindow c).ntu = s.ntu ∧
    (s.openWindow c).store = s.store ∧ (s.openWindow c).slots = s.slots ∧
    (s.openWindow c).stations = s.stations ∧ (s.openWindow c).link = s.link ∧
    (s.openWindow c).bus = s.bus ∧ (s.openWindow c).blu = s.blu ∧ (s.openWindow c).gsq = s.gsq ∧
    (s.openWindow c).shu = s.shu ∧ (s.openWindow c).rsq = s.rsq ∧ (s.openWindow c).scu = s.scu ∧
    (s.openWindow c).params = s.params ∧ (s.openWindow c).mail = s.mail ∧
    (s.openWindow c).freeCount = s.freeCount ∧ (s.openWindow c).pending = s.pending ∧
    (∀ p0, (s.openWindow c).param p0 = s.param p0) ∧ (∀ i0, (s.openWindow c).gen i0 = s.gen i0) ∧
    (s.openWindow c).timeS = s.timeS ∧
    (∀ i0 : SlotIx, (s.openWindow c).slots[i0.val].gen = s.slots[i0.val].gen) := by
  simp [State.openWindow, State.gen, State.param, State.timeS]

@[simp] theorem State.startWindow_frame (c : LineIx) (s : State) :
    (s.startWindow c).now = s.now ∧ (s.startWindow c).port = s.port ∧ (s.startWindow c).ntu = s.ntu ∧
    (s.startWindow c).store = s.store ∧ (s.startWindow c).slots = s.slots ∧
    (s.startWindow c).stations = s.stations ∧ (s.startWindow c).link = s.link ∧
    (s.startWindow c).bus = s.bus ∧ (s.startWindow c).blu = s.blu ∧ (s.startWindow c).gsq = s.gsq ∧
    (s.startWindow c).shu = s.shu ∧ (s.startWindow c).rsq = s.rsq ∧ (s.startWindow c).scu = s.scu ∧
    (s.startWindow c).params = s.params ∧ (s.startWindow c).mail = s.mail ∧
    (s.startWindow c).freeCount = s.freeCount ∧ (s.startWindow c).pending = s.pending ∧
    (∀ p0, (s.startWindow c).param p0 = s.param p0) ∧ (∀ i0, (s.startWindow c).gen i0 = s.gen i0) ∧
    (s.startWindow c).timeS = s.timeS ∧
    (∀ i0 : SlotIx, (s.startWindow c).slots[i0.val].gen = s.slots[i0.val].gen) := by
  simp [State.startWindow, State.gen, State.param, State.timeS]

@[simp] theorem State.endWindow_frame (c : LineIx) (s : State) :
    (s.endWindow c).now = s.now ∧ (s.endWindow c).port = s.port ∧ (s.endWindow c).ntu = s.ntu ∧
    (s.endWindow c).store = s.store ∧ (s.endWindow c).slots = s.slots ∧
    (s.endWindow c).stations = s.stations ∧ (s.endWindow c).link = s.link ∧
    (s.endWindow c).bus = s.bus ∧ (s.endWindow c).blu = s.blu ∧ (s.endWindow c).gsq = s.gsq ∧
    (s.endWindow c).shu = s.shu ∧ (s.endWindow c).rsq = s.rsq ∧ (s.endWindow c).scu = s.scu ∧
    (s.endWindow c).params = s.params ∧ (s.endWindow c).mail = s.mail ∧
    (s.endWindow c).freeCount = s.freeCount ∧ (s.endWindow c).pending = s.pending ∧
    (∀ p0, (s.endWindow c).param p0 = s.param p0) ∧ (∀ i0, (s.endWindow c).gen i0 = s.gen i0) ∧
    (s.endWindow c).timeS = s.timeS ∧
    (∀ i0 : SlotIx, (s.endWindow c).slots[i0.val].gen = s.slots[i0.val].gen) := by
  simp [State.endWindow, State.gen, State.param, State.timeS]

@[simp] theorem State.endPulse_frame (l : LineIx) (s : State) :
    (s.endPulse l).now = s.now ∧ (s.endPulse l).port = s.port ∧ (s.endPulse l).ntu = s.ntu ∧
    (s.endPulse l).store = s.store ∧ (s.endPulse l).slots = s.slots ∧
    (s.endPulse l).stations = s.stations ∧ (s.endPulse l).link = s.link ∧ (s.endPulse l).bus = s.bus ∧
    (s.endPulse l).blu = s.blu ∧ (s.endPulse l).gsq = s.gsq ∧ (s.endPulse l).shu = s.shu ∧
    (s.endPulse l).rsq = s.rsq ∧ (s.endPulse l).scu = s.scu ∧ (s.endPulse l).params = s.params ∧
    (s.endPulse l).mail = s.mail ∧ (s.endPulse l).freeCount = s.freeCount ∧
    (s.endPulse l).pending = s.pending ∧ (∀ p0, (s.endPulse l).param p0 = s.param p0) ∧
    (∀ i0, (s.endPulse l).gen i0 = s.gen i0) ∧ (s.endPulse l).timeS = s.timeS ∧
    (∀ i0 : SlotIx, (s.endPulse l).slots[i0.val].gen = s.slots[i0.val].gen) := by
  simp [State.endPulse, State.gen, State.param, State.timeS]

@[simp] theorem State.deliverBreaker_frame (l : LineIx) (closed : Bool) (s : State) :
    (s.deliverBreaker l closed).now = s.now ∧ (s.deliverBreaker l closed).port = s.port ∧
    (s.deliverBreaker l closed).ntu = s.ntu ∧ (s.deliverBreaker l closed).store = s.store ∧
    (s.deliverBreaker l closed).slots = s.slots ∧ (s.deliverBreaker l closed).stations = s.stations ∧
    (s.deliverBreaker l closed).link = s.link ∧ (s.deliverBreaker l closed).bus = s.bus ∧
    (s.deliverBreaker l closed).blu = s.blu ∧ (s.deliverBreaker l closed).gsq = s.gsq ∧
    (s.deliverBreaker l closed).shu = s.shu ∧ (s.deliverBreaker l closed).rsq = s.rsq ∧
    (s.deliverBreaker l closed).scu = s.scu ∧ (s.deliverBreaker l closed).lines = s.lines ∧
    (s.deliverBreaker l closed).params = s.params ∧
    (s.deliverBreaker l closed).freeCount = s.freeCount ∧
    (s.deliverBreaker l closed).pending = s.pending ∧
    (∀ p0, (s.deliverBreaker l closed).param p0 = s.param p0) ∧
    (∀ i0, (s.deliverBreaker l closed).gen i0 = s.gen i0) ∧
    (s.deliverBreaker l closed).timeS = s.timeS ∧
    (∀ i0 : SlotIx, (s.deliverBreaker l closed).slots[i0.val].gen = s.slots[i0.val].gen) := by
  simp [State.deliverBreaker, State.gen, State.param, State.timeS]

@[simp] theorem State.deliverChange_frame (l : LineIx) (level : Bool) (s : State) :
    (s.deliverChange l level).now = s.now ∧ (s.deliverChange l level).port = s.port ∧
    (s.deliverChange l level).ntu = s.ntu ∧ (s.deliverChange l level).store = s.store ∧
    (s.deliverChange l level).slots = s.slots ∧ (s.deliverChange l level).stations = s.stations ∧
    (s.deliverChange l level).link = s.link ∧ (s.deliverChange l level).bus = s.bus ∧
    (s.deliverChange l level).blu = s.blu ∧ (s.deliverChange l level).gsq = s.gsq ∧
    (s.deliverChange l level).shu = s.shu ∧ (s.deliverChange l level).rsq = s.rsq ∧
    (s.deliverChange l level).scu = s.scu ∧ (s.deliverChange l level).lines = s.lines ∧
    (s.deliverChange l level).params = s.params ∧ (s.deliverChange l level).freeCount = s.freeCount ∧
    (s.deliverChange l level).pending = s.pending ∧
    (∀ p0, (s.deliverChange l level).param p0 = s.param p0) ∧
    (∀ i0, (s.deliverChange l level).gen i0 = s.gen i0) ∧ (s.deliverChange l level).timeS = s.timeS ∧
    (∀ i0 : SlotIx, (s.deliverChange l level).slots[i0.val].gen = s.slots[i0.val].gen) := by
  unfold State.deliverChange
  split <;> simp [State.gen, State.param, State.timeS]

@[simp] theorem State.filterChange_frame (l : LineIx) (level : Bool) (s : State) :
    (s.filterChange l level).now = s.now ∧ (s.filterChange l level).port = s.port ∧
    (s.filterChange l level).ntu = s.ntu ∧ (s.filterChange l level).store = s.store ∧
    (s.filterChange l level).slots = s.slots ∧ (s.filterChange l level).stations = s.stations ∧
    (s.filterChange l level).link = s.link ∧ (s.filterChange l level).bus = s.bus ∧
    (s.filterChange l level).blu = s.blu ∧ (s.filterChange l level).gsq = s.gsq ∧
    (s.filterChange l level).shu = s.shu ∧ (s.filterChange l level).rsq = s.rsq ∧
    (s.filterChange l level).scu = s.scu ∧ (s.filterChange l level).params = s.params ∧
    (s.filterChange l level).freeCount = s.freeCount ∧ (s.filterChange l level).pending = s.pending ∧
    (∀ p0, (s.filterChange l level).param p0 = s.param p0) ∧
    (∀ i0, (s.filterChange l level).gen i0 = s.gen i0) ∧ (s.filterChange l level).timeS = s.timeS ∧
    (∀ i0 : SlotIx, (s.filterChange l level).slots[i0.val].gen = s.slots[i0.val].gen) := by
  simp [State.filterChange, State.gen, State.param, State.timeS]

@[simp] theorem State.filterPin_frame (l : LineIx) (high : Bool) (s : State) :
    (s.filterPin l high).now = s.now ∧ (s.filterPin l high).port = s.port ∧
    (s.filterPin l high).ntu = s.ntu ∧ (s.filterPin l high).store = s.store ∧
    (s.filterPin l high).slots = s.slots ∧ (s.filterPin l high).stations = s.stations ∧
    (s.filterPin l high).link = s.link ∧ (s.filterPin l high).bus = s.bus ∧
    (s.filterPin l high).blu = s.blu ∧ (s.filterPin l high).gsq = s.gsq ∧
    (s.filterPin l high).shu = s.shu ∧ (s.filterPin l high).rsq = s.rsq ∧
    (s.filterPin l high).scu = s.scu ∧ (s.filterPin l high).params = s.params ∧
    (s.filterPin l high).freeCount = s.freeCount ∧ (s.filterPin l high).pending = s.pending ∧
    (∀ p0, (s.filterPin l high).param p0 = s.param p0) ∧
    (∀ i0, (s.filterPin l high).gen i0 = s.gen i0) ∧ (s.filterPin l high).timeS = s.timeS ∧
    (∀ i0 : SlotIx, (s.filterPin l high).slots[i0.val].gen = s.slots[i0.val].gen) := by
  simp [State.filterPin, State.gen, State.param, State.timeS]

@[simp] theorem State.configureLine_frame (l : LineIx) (f : LineFunction) (p : Polarity) (t : Nat) (s :
    State) :
    (s.configureLine l f p t).now = s.now ∧ (s.configureLine l f p t).port = s.port ∧
    (s.configureLine l f p t).ntu = s.ntu ∧ (s.configureLine l f p t).store = s.store ∧
    (s.configureLine l f p t).slots = s.slots ∧ (s.configureLine l f p t).stations = s.stations ∧
    (s.configureLine l f p t).link = s.link ∧ (s.configureLine l f p t).bus = s.bus ∧
    (s.configureLine l f p t).blu = s.blu ∧ (s.configureLine l f p t).gsq = s.gsq ∧
    (s.configureLine l f p t).shu = s.shu ∧ (s.configureLine l f p t).rsq = s.rsq ∧
    (s.configureLine l f p t).scu = s.scu ∧ (s.configureLine l f p t).params = s.params ∧
    (s.configureLine l f p t).freeCount = s.freeCount ∧ (s.configureLine l f p t).pending = s.pending ∧
    (∀ p0, (s.configureLine l f p t).param p0 = s.param p0) ∧
    (∀ i0, (s.configureLine l f p t).gen i0 = s.gen i0) ∧ (s.configureLine l f p t).timeS = s.timeS ∧
    (∀ i0 : SlotIx, (s.configureLine l f p t).slots[i0.val].gen = s.slots[i0.val].gen) := by
  simp [State.configureLine, State.gen, State.param, State.timeS]

end Sys2Proof.Machine
end

