-- ==== Sys2Proof/Laws/FrameLink.lean ====
section
/-! SUPPORT. What the field link queues (Machine/Link.lean) leave unchanged: for each operation, the fields of the state that it keeps, as
simp lemmas, so that no later proof unfolds it for a field it does not touch. -/

namespace Sys2Proof.Machine

@[simp] theorem State.modStation_frame (i : DirIx) (f : Station → Station) (s : State) :
    (s.modStation i f).now = s.now ∧ (s.modStation i f).port = s.port ∧
    (s.modStation i f).ntu = s.ntu ∧ (s.modStation i f).store = s.store ∧
    (s.modStation i f).slots = s.slots ∧ (s.modStation i f).link = s.link ∧
    (s.modStation i f).bus = s.bus ∧ (s.modStation i f).blu = s.blu ∧ (s.modStation i f).gsq = s.gsq ∧
    (s.modStation i f).shu = s.shu ∧ (s.modStation i f).rsq = s.rsq ∧ (s.modStation i f).scu = s.scu ∧
    (s.modStation i f).lines = s.lines ∧ (s.modStation i f).params = s.params ∧
    (s.modStation i f).mail = s.mail ∧ (s.modStation i f).freeCount = s.freeCount ∧
    (s.modStation i f).pending = s.pending ∧ (∀ p0, (s.modStation i f).param p0 = s.param p0) ∧
    (∀ i0, (s.modStation i f).gen i0 = s.gen i0) ∧ (s.modStation i f).timeS = s.timeS ∧
    (∀ i0 : SlotIx, (s.modStation i f).slots[i0.val].gen = s.slots[i0.val].gen) := by
  simp [State.modStation, State.gen, State.param, State.timeS]

@[simp] theorem State.dropSetpoints_frame (i : SlotIx) (s : State) :
    (s.dropSetpoints i).now = s.now ∧ (s.dropSetpoints i).port = s.port ∧
    (s.dropSetpoints i).ntu = s.ntu ∧ (s.dropSetpoints i).store = s.store ∧
    (s.dropSetpoints i).slots = s.slots ∧ (s.dropSetpoints i).stations = s.stations ∧
    (s.dropSetpoints i).bus = s.bus ∧ (s.dropSetpoints i).blu = s.blu ∧
    (s.dropSetpoints i).gsq = s.gsq ∧ (s.dropSetpoints i).shu = s.shu ∧
    (s.dropSetpoints i).rsq = s.rsq ∧ (s.dropSetpoints i).scu = s.scu ∧
    (s.dropSetpoints i).lines = s.lines ∧ (s.dropSetpoints i).params = s.params ∧
    (s.dropSetpoints i).mail = s.mail ∧ (s.dropSetpoints i).freeCount = s.freeCount ∧
    (s.dropSetpoints i).pending = s.pending ∧ (∀ p0, (s.dropSetpoints i).param p0 = s.param p0) ∧
    (∀ i0, (s.dropSetpoints i).gen i0 = s.gen i0) ∧ (s.dropSetpoints i).timeS = s.timeS ∧
    (∀ i0 : SlotIx, (s.dropSetpoints i).slots[i0.val].gen = s.slots[i0.val].gen) := by
  simp [State.dropSetpoints, State.gen, State.param, State.timeS]

@[simp] theorem State.dropUnload_frame (i : SlotIx) (s : State) :
    (s.dropUnload i).now = s.now ∧ (s.dropUnload i).port = s.port ∧ (s.dropUnload i).ntu = s.ntu ∧
    (s.dropUnload i).store = s.store ∧ (s.dropUnload i).slots = s.slots ∧
    (s.dropUnload i).stations = s.stations ∧ (s.dropUnload i).bus = s.bus ∧
    (s.dropUnload i).blu = s.blu ∧ (s.dropUnload i).gsq = s.gsq ∧ (s.dropUnload i).shu = s.shu ∧
    (s.dropUnload i).rsq = s.rsq ∧ (s.dropUnload i).scu = s.scu ∧ (s.dropUnload i).lines = s.lines ∧
    (s.dropUnload i).params = s.params ∧ (s.dropUnload i).mail = s.mail ∧
    (s.dropUnload i).freeCount = s.freeCount ∧ (s.dropUnload i).pending = s.pending ∧
    (∀ p0, (s.dropUnload i).param p0 = s.param p0) ∧ (∀ i0, (s.dropUnload i).gen i0 = s.gen i0) ∧
    (s.dropUnload i).timeS = s.timeS ∧
    (∀ i0 : SlotIx, (s.dropUnload i).slots[i0.val].gen = s.slots[i0.val].gen) := by
  simp [State.dropUnload, State.gen, State.param, State.timeS]

@[simp] theorem State.beginTransaction_frame (x : Station) (e : Errand) (fairness : Nat) (s : State) :
    (s.beginTransaction x e fairness).now = s.now ∧ (s.beginTransaction x e fairness).port = s.port ∧
    (s.beginTransaction x e fairness).ntu = s.ntu ∧ (s.beginTransaction x e fairness).store = s.store ∧
    (s.beginTransaction x e fairness).slots = s.slots ∧
    (s.beginTransaction x e fairness).stations = s.stations ∧
    (s.beginTransaction x e fairness).bus = s.bus ∧ (s.beginTransaction x e fairness).blu = s.blu ∧
    (s.beginTransaction x e fairness).gsq = s.gsq ∧ (s.beginTransaction x e fairness).shu = s.shu ∧
    (s.beginTransaction x e fairness).rsq = s.rsq ∧ (s.beginTransaction x e fairness).scu = s.scu ∧
    (s.beginTransaction x e fairness).lines = s.lines ∧
    (s.beginTransaction x e fairness).params = s.params ∧
    (s.beginTransaction x e fairness).mail = s.mail ∧
    (s.beginTransaction x e fairness).freeCount = s.freeCount ∧
    (s.beginTransaction x e fairness).pending = s.pending ∧
    (∀ p0, (s.beginTransaction x e fairness).param p0 = s.param p0) ∧
    (∀ i0, (s.beginTransaction x e fairness).gen i0 = s.gen i0) ∧
    (s.beginTransaction x e fairness).timeS = s.timeS ∧
    (∀ i0 : SlotIx, (s.beginTransaction x e fairness).slots[i0.val].gen = s.slots[i0.val].gen) := by
  simp [State.beginTransaction, State.gen, State.param, State.timeS]

@[simp] theorem State.beginPoll_frame (i : DirIx) (s : State) :
    (s.beginPoll i).now = s.now ∧ (s.beginPoll i).port = s.port ∧ (s.beginPoll i).ntu = s.ntu ∧
    (s.beginPoll i).store = s.store ∧ (s.beginPoll i).slots = s.slots ∧ (s.beginPoll i).bus = s.bus ∧
    (s.beginPoll i).blu = s.blu ∧ (s.beginPoll i).gsq = s.gsq ∧ (s.beginPoll i).shu = s.shu ∧
    (s.beginPoll i).rsq = s.rsq ∧ (s.beginPoll i).scu = s.scu ∧ (s.beginPoll i).lines = s.lines ∧
    (s.beginPoll i).params = s.params ∧ (s.beginPoll i).mail = s.mail ∧
    (s.beginPoll i).freeCount = s.freeCount ∧ (s.beginPoll i).pending = s.pending ∧
    (∀ p0, (s.beginPoll i).param p0 = s.param p0) ∧ (∀ i0, (s.beginPoll i).gen i0 = s.gen i0) ∧
    (s.beginPoll i).timeS = s.timeS ∧
    (∀ i0 : SlotIx, (s.beginPoll i).slots[i0.val].gen = s.slots[i0.val].gen) := by
  unfold State.beginPoll
  split <;> simp [State.gen, State.param, State.timeS]

@[simp] theorem State.beginSetpoint_frame (e : SetpointEntry) (x : Station) (unit : Nat) (s : State) :
    (s.beginSetpoint e x unit).now = s.now ∧ (s.beginSetpoint e x unit).port = s.port ∧
    (s.beginSetpoint e x unit).ntu = s.ntu ∧ (s.beginSetpoint e x unit).store = s.store ∧
    (s.beginSetpoint e x unit).stations = s.stations ∧ (s.beginSetpoint e x unit).bus = s.bus ∧
    (s.beginSetpoint e x unit).blu = s.blu ∧ (s.beginSetpoint e x unit).gsq = s.gsq ∧
    (s.beginSetpoint e x unit).shu = s.shu ∧ (s.beginSetpoint e x unit).rsq = s.rsq ∧
    (s.beginSetpoint e x unit).scu = s.scu ∧ (s.beginSetpoint e x unit).lines = s.lines ∧
    (s.beginSetpoint e x unit).params = s.params ∧ (s.beginSetpoint e x unit).mail = s.mail ∧
    (s.beginSetpoint e x unit).freeCount = s.freeCount ∧
    (s.beginSetpoint e x unit).pending = s.pending ∧
    (∀ p0, (s.beginSetpoint e x unit).param p0 = s.param p0) ∧
    (∀ i0, (s.beginSetpoint e x unit).gen i0 = s.gen i0) ∧ (s.beginSetpoint e x unit).timeS = s.timeS ∧
    (∀ i0 : SlotIx, (s.beginSetpoint e x unit).slots[i0.val].gen = s.slots[i0.val].gen) := by
  simp [State.beginSetpoint, State.gen, State.param, State.timeS]

@[simp] theorem State.beginUnload_frame (e : CommandEntry) (x : Station) (unit : Nat) (s : State) :
    (s.beginUnload e x unit).now = s.now ∧ (s.beginUnload e x unit).port = s.port ∧
    (s.beginUnload e x unit).ntu = s.ntu ∧ (s.beginUnload e x unit).store = s.store ∧
    (s.beginUnload e x unit).slots = s.slots ∧ (s.beginUnload e x unit).stations = s.stations ∧
    (s.beginUnload e x unit).bus = s.bus ∧ (s.beginUnload e x unit).blu = s.blu ∧
    (s.beginUnload e x unit).gsq = s.gsq ∧ (s.beginUnload e x unit).shu = s.shu ∧
    (s.beginUnload e x unit).rsq = s.rsq ∧ (s.beginUnload e x unit).scu = s.scu ∧
    (s.beginUnload e x unit).lines = s.lines ∧ (s.beginUnload e x unit).params = s.params ∧
    (s.beginUnload e x unit).mail = s.mail ∧ (s.beginUnload e x unit).freeCount = s.freeCount ∧
    (s.beginUnload e x unit).pending = s.pending ∧
    (∀ p0, (s.beginUnload e x unit).param p0 = s.param p0) ∧
    (∀ i0, (s.beginUnload e x unit).gen i0 = s.gen i0) ∧ (s.beginUnload e x unit).timeS = s.timeS ∧
    (∀ i0 : SlotIx, (s.beginUnload e x unit).slots[i0.val].gen = s.slots[i0.val].gen) := by
  simp [State.beginUnload, State.gen, State.param, State.timeS]

@[simp] theorem State.arbiter_frame (s : State) :
    s.arbiter.now = s.now ∧ s.arbiter.port = s.port ∧ s.arbiter.ntu = s.ntu ∧
    s.arbiter.store = s.store ∧ s.arbiter.bus = s.bus ∧ s.arbiter.blu = s.blu ∧ s.arbiter.gsq = s.gsq ∧
    s.arbiter.shu = s.shu ∧ s.arbiter.rsq = s.rsq ∧ s.arbiter.scu = s.scu ∧ s.arbiter.lines = s.lines ∧
    s.arbiter.params = s.params ∧ s.arbiter.mail = s.mail ∧ s.arbiter.freeCount = s.freeCount ∧
    s.arbiter.pending = s.pending ∧ (∀ p0, s.arbiter.param p0 = s.param p0) ∧
    (∀ i0, s.arbiter.gen i0 = s.gen i0) ∧ s.arbiter.timeS = s.timeS ∧
    (∀ i0 : SlotIx, s.arbiter.slots[i0.val].gen = s.slots[i0.val].gen) := by
  unfold State.arbiter
  (repeat' split) <;> simp [State.gen, State.param, State.timeS]

@[simp] theorem State.requestSetpoint_frame (i : SlotIx) (value : Nat) (s : State) :
    (s.requestSetpoint i value).now = s.now ∧ (s.requestSetpoint i value).port = s.port ∧
    (s.requestSetpoint i value).ntu = s.ntu ∧ (s.requestSetpoint i value).store = s.store ∧
    (s.requestSetpoint i value).bus = s.bus ∧ (s.requestSetpoint i value).blu = s.blu ∧
    (s.requestSetpoint i value).gsq = s.gsq ∧ (s.requestSetpoint i value).shu = s.shu ∧
    (s.requestSetpoint i value).rsq = s.rsq ∧ (s.requestSetpoint i value).scu = s.scu ∧
    (s.requestSetpoint i value).lines = s.lines ∧ (s.requestSetpoint i value).params = s.params ∧
    (s.requestSetpoint i value).mail = s.mail ∧ (s.requestSetpoint i value).freeCount = s.freeCount ∧
    (s.requestSetpoint i value).pending = s.pending ∧
    (∀ p0, (s.requestSetpoint i value).param p0 = s.param p0) ∧
    (∀ i0, (s.requestSetpoint i value).gen i0 = s.gen i0) ∧
    (s.requestSetpoint i value).timeS = s.timeS ∧
    (∀ i0 : SlotIx, (s.requestSetpoint i value).slots[i0.val].gen = s.slots[i0.val].gen) := by
  simp [State.requestSetpoint, State.gen, State.param, State.timeS]

@[simp] theorem State.requestUnload_frame (i : SlotIx) (s : State) :
    (s.requestUnload i).now = s.now ∧ (s.requestUnload i).port = s.port ∧
    (s.requestUnload i).ntu = s.ntu ∧ (s.requestUnload i).store = s.store ∧
    (s.requestUnload i).bus = s.bus ∧ (s.requestUnload i).blu = s.blu ∧
    (s.requestUnload i).gsq = s.gsq ∧ (s.requestUnload i).shu = s.shu ∧
    (s.requestUnload i).rsq = s.rsq ∧ (s.requestUnload i).scu = s.scu ∧
    (s.requestUnload i).lines = s.lines ∧ (s.requestUnload i).params = s.params ∧
    (s.requestUnload i).mail = s.mail ∧ (s.requestUnload i).freeCount = s.freeCount ∧
    (s.requestUnload i).pending = s.pending ∧ (∀ p0, (s.requestUnload i).param p0 = s.param p0) ∧
    (∀ i0, (s.requestUnload i).gen i0 = s.gen i0) ∧ (s.requestUnload i).timeS = s.timeS ∧
    (∀ i0 : SlotIx, (s.requestUnload i).slots[i0.val].gen = s.slots[i0.val].gen) := by
  unfold State.requestUnload
  split <;> simp [State.gen, State.param, State.timeS]

end Sys2Proof.Machine
end

