-- ==== Sys2Proof/Laws/FrameSlots.lean ====
section
/-! SUPPORT. What the slots (Machine/Slots.lean) leave unchanged: for each operation, the fields of the state that it keeps, as
simp lemmas, so that no later proof unfolds it for a field it does not touch. -/

namespace Sys2Proof.Machine

@[simp] theorem State.askReevaluation_frame (s : State) :
    s.askReevaluation.now = s.now ∧ s.askReevaluation.port = s.port ∧ s.askReevaluation.ntu = s.ntu ∧
    s.askReevaluation.store = s.store ∧ s.askReevaluation.slots = s.slots ∧
    s.askReevaluation.stations = s.stations ∧ s.askReevaluation.link = s.link ∧
    s.askReevaluation.bus = s.bus ∧ s.askReevaluation.gsq = s.gsq ∧ s.askReevaluation.shu = s.shu ∧
    s.askReevaluation.rsq = s.rsq ∧ s.askReevaluation.scu = s.scu ∧ s.askReevaluation.lines = s.lines ∧
    s.askReevaluation.params = s.params ∧ s.askReevaluation.mail = s.mail ∧
    s.askReevaluation.freeCount = s.freeCount ∧ s.askReevaluation.pending = s.pending ∧
    (∀ p0, s.askReevaluation.param p0 = s.param p0) ∧ (∀ i0, s.askReevaluation.gen i0 = s.gen i0) ∧
    s.askReevaluation.timeS = s.timeS ∧
    (∀ i0 : SlotIx, s.askReevaluation.slots[i0.val].gen = s.slots[i0.val].gen) := by
  simp [State.askReevaluation, State.gen, State.param, State.timeS]

@[simp] theorem State.leaveArmed_frame (i : SlotIx) (s : State) :
    (s.leaveArmed i).now = s.now ∧ (s.leaveArmed i).port = s.port ∧ (s.leaveArmed i).ntu = s.ntu ∧
    (s.leaveArmed i).store = s.store ∧ (s.leaveArmed i).slots = s.slots ∧
    (s.leaveArmed i).stations = s.stations ∧ (s.leaveArmed i).link = s.link ∧
    (s.leaveArmed i).bus = s.bus ∧ (s.leaveArmed i).blu = s.blu ∧ (s.leaveArmed i).gsq = s.gsq ∧
    (s.leaveArmed i).rsq = s.rsq ∧ (s.leaveArmed i).scu = s.scu ∧ (s.leaveArmed i).lines = s.lines ∧
    (s.leaveArmed i).params = s.params ∧ (s.leaveArmed i).mail = s.mail ∧
    (s.leaveArmed i).freeCount = s.freeCount ∧ (s.leaveArmed i).pending = s.pending ∧
    (∀ p0, (s.leaveArmed i).param p0 = s.param p0) ∧ (∀ i0, (s.leaveArmed i).gen i0 = s.gen i0) ∧
    (s.leaveArmed i).timeS = s.timeS ∧
    (∀ i0 : SlotIx, (s.leaveArmed i).slots[i0.val].gen = s.slots[i0.val].gen) := by
  simp [State.leaveArmed, State.gen, State.param, State.timeS]

@[simp] theorem State.leaveBatch_frame (i : SlotIx) (s : State) :
    (s.leaveBatch i).now = s.now ∧ (s.leaveBatch i).port = s.port ∧ (s.leaveBatch i).ntu = s.ntu ∧
    (s.leaveBatch i).store = s.store ∧ (s.leaveBatch i).slots = s.slots ∧
    (s.leaveBatch i).stations = s.stations ∧ (s.leaveBatch i).link = s.link ∧
    (s.leaveBatch i).bus = s.bus ∧ (s.leaveBatch i).gsq = s.gsq ∧ (s.leaveBatch i).rsq = s.rsq ∧
    (s.leaveBatch i).scu = s.scu ∧ (s.leaveBatch i).lines = s.lines ∧
    (s.leaveBatch i).params = s.params ∧ (s.leaveBatch i).mail = s.mail ∧
    (s.leaveBatch i).freeCount = s.freeCount ∧ (s.leaveBatch i).pending = s.pending ∧
    (∀ p0, (s.leaveBatch i).param p0 = s.param p0) ∧ (∀ i0, (s.leaveBatch i).gen i0 = s.gen i0) ∧
    (s.leaveBatch i).timeS = s.timeS ∧
    (∀ i0 : SlotIx, (s.leaveBatch i).slots[i0.val].gen = s.slots[i0.val].gen) := by
  simp [State.leaveBatch, State.gen, State.param, State.timeS]

@[simp] theorem State.dropReclose_frame (s : State) :
    s.dropReclose.now = s.now ∧ s.dropReclose.port = s.port ∧ s.dropReclose.ntu = s.ntu ∧
    s.dropReclose.store = s.store ∧ s.dropReclose.slots = s.slots ∧
    s.dropReclose.stations = s.stations ∧ s.dropReclose.link = s.link ∧ s.dropReclose.bus = s.bus ∧
    s.dropReclose.blu = s.blu ∧ s.dropReclose.gsq = s.gsq ∧ s.dropReclose.rsq = s.rsq ∧
    s.dropReclose.lines = s.lines ∧ s.dropReclose.params = s.params ∧ s.dropReclose.mail = s.mail ∧
    s.dropReclose.freeCount = s.freeCount ∧ s.dropReclose.pending = s.pending ∧
    (∀ p0, s.dropReclose.param p0 = s.param p0) ∧ (∀ i0, s.dropReclose.gen i0 = s.gen i0) ∧
    s.dropReclose.timeS = s.timeS ∧
    (∀ i0 : SlotIx, s.dropReclose.slots[i0.val].gen = s.slots[i0.val].gen) := by
  simp [State.dropReclose, State.gen, State.param, State.timeS]

@[simp] theorem State.releasePermit_frame (s : State) :
    s.releasePermit.now = s.now ∧ s.releasePermit.port = s.port ∧ s.releasePermit.ntu = s.ntu ∧
    s.releasePermit.store = s.store ∧ s.releasePermit.slots = s.slots ∧
    s.releasePermit.stations = s.stations ∧ s.releasePermit.link = s.link ∧
    s.releasePermit.bus = s.bus ∧ s.releasePermit.blu = s.blu ∧ s.releasePermit.shu = s.shu ∧
    s.releasePermit.rsq = s.rsq ∧ s.releasePermit.scu = s.scu ∧ s.releasePermit.params = s.params ∧
    s.releasePermit.mail = s.mail ∧ s.releasePermit.freeCount = s.freeCount ∧
    s.releasePermit.pending = s.pending ∧ (∀ p0, s.releasePermit.param p0 = s.param p0) ∧
    (∀ i0, s.releasePermit.gen i0 = s.gen i0) ∧ s.releasePermit.timeS = s.timeS ∧
    (∀ i0 : SlotIx, s.releasePermit.slots[i0.val].gen = s.slots[i0.val].gen) := by
  unfold State.releasePermit
  (repeat' split) <;> simp [State.gen, State.param, State.timeS]

@[simp] theorem State.leaveGensetLists_frame (i : SlotIx) (s : State) :
    (s.leaveGensetLists i).now = s.now ∧ (s.leaveGensetLists i).port = s.port ∧
    (s.leaveGensetLists i).ntu = s.ntu ∧ (s.leaveGensetLists i).store = s.store ∧
    (s.leaveGensetLists i).slots = s.slots ∧ (s.leaveGensetLists i).stations = s.stations ∧
    (s.leaveGensetLists i).link = s.link ∧ (s.leaveGensetLists i).bus = s.bus ∧
    (s.leaveGensetLists i).blu = s.blu ∧ (s.leaveGensetLists i).shu = s.shu ∧
    (s.leaveGensetLists i).rsq = s.rsq ∧ (s.leaveGensetLists i).scu = s.scu ∧
    (s.leaveGensetLists i).lines = s.lines ∧ (s.leaveGensetLists i).params = s.params ∧
    (s.leaveGensetLists i).mail = s.mail ∧ (s.leaveGensetLists i).freeCount = s.freeCount ∧
    (s.leaveGensetLists i).pending = s.pending ∧ (∀ p0, (s.leaveGensetLists i).param p0 = s.param p0) ∧
    (∀ i0, (s.leaveGensetLists i).gen i0 = s.gen i0) ∧ (s.leaveGensetLists i).timeS = s.timeS ∧
    (∀ i0 : SlotIx, (s.leaveGensetLists i).slots[i0.val].gen = s.slots[i0.val].gen) := by
  simp [State.leaveGensetLists, State.gen, State.param, State.timeS]

@[simp] theorem State.clearRunMark_frame (i : SlotIx) (s : State) :
    (s.clearRunMark i).now = s.now ∧ (s.clearRunMark i).port = s.port ∧
    (s.clearRunMark i).ntu = s.ntu ∧ (s.clearRunMark i).store = s.store ∧
    (s.clearRunMark i).slots = s.slots ∧ (s.clearRunMark i).stations = s.stations ∧
    (s.clearRunMark i).link = s.link ∧ (s.clearRunMark i).bus = s.bus ∧
    (s.clearRunMark i).gsq = s.gsq ∧ (s.clearRunMark i).shu = s.shu ∧ (s.clearRunMark i).rsq = s.rsq ∧
    (s.clearRunMark i).scu = s.scu ∧ (s.clearRunMark i).lines = s.lines ∧
    (s.clearRunMark i).params = s.params ∧ (s.clearRunMark i).mail = s.mail ∧
    (s.clearRunMark i).freeCount = s.freeCount ∧ (s.clearRunMark i).pending = s.pending ∧
    (∀ p0, (s.clearRunMark i).param p0 = s.param p0) ∧ (∀ i0, (s.clearRunMark i).gen i0 = s.gen i0) ∧
    (s.clearRunMark i).timeS = s.timeS ∧
    (∀ i0 : SlotIx, (s.clearRunMark i).slots[i0.val].gen = s.slots[i0.val].gen) := by
  simp [State.clearRunMark, State.gen, State.param, State.timeS]

@[simp] theorem State.freeSlot_frame (i : SlotIx) (s : State) :
    (s.freeSlot i).now = s.now ∧ (s.freeSlot i).port = s.port ∧ (s.freeSlot i).store = s.store ∧
    (s.freeSlot i).stations = s.stations ∧ (s.freeSlot i).bus = s.bus ∧ (s.freeSlot i).rsq = s.rsq ∧
    (s.freeSlot i).params = s.params ∧ (s.freeSlot i).mail = s.mail ∧
    (s.freeSlot i).freeCount = s.freeCount ∧ (s.freeSlot i).pending = s.pending ∧
    (∀ p0, (s.freeSlot i).param p0 = s.param p0) ∧ (s.freeSlot i).timeS = s.timeS := by
  unfold State.freeSlot
  split <;> simp [State.gen, State.param, State.timeS]

end Sys2Proof.Machine
end

