-- ==== Sys2Proof/Laws/FrameGenset.lean ====
section
/-! SUPPORT. What the gensets (Machine/Genset.lean) leave unchanged: for each operation, the fields of the state that it keeps, as
simp lemmas, so that no later proof unfolds it for a field it does not touch. -/

namespace Sys2Proof.Machine

@[simp] theorem State.setTimer_frame (i : SlotIx) (st : GensetState) (s : State) :
    (s.setTimer i st).now = s.now ∧ (s.setTimer i st).port = s.port ∧ (s.setTimer i st).ntu = s.ntu ∧
    (s.setTimer i st).store = s.store ∧ (s.setTimer i st).slots = s.slots ∧
    (s.setTimer i st).stations = s.stations ∧ (s.setTimer i st).link = s.link ∧
    (s.setTimer i st).bus = s.bus ∧ (s.setTimer i st).blu = s.blu ∧ (s.setTimer i st).gsq = s.gsq ∧
    (s.setTimer i st).shu = s.shu ∧ (s.setTimer i st).rsq = s.rsq ∧ (s.setTimer i st).lines = s.lines ∧
    (s.setTimer i st).params = s.params ∧ (s.setTimer i st).mail = s.mail ∧
    (s.setTimer i st).freeCount = s.freeCount ∧ (s.setTimer i st).pending = s.pending ∧
    (∀ p0, (s.setTimer i st).param p0 = s.param p0) ∧ (∀ i0, (s.setTimer i st).gen i0 = s.gen i0) ∧
    (s.setTimer i st).timeS = s.timeS ∧
    (∀ i0 : SlotIx, (s.setTimer i st).slots[i0.val].gen = s.slots[i0.val].gen) := by
  unfold State.setTimer
  split <;> simp [State.gen, State.param, State.timeS]

@[simp] theorem State.tryGrant_frame (s : State) :
    s.tryGrant.now = s.now ∧ s.tryGrant.port = s.port ∧ s.tryGrant.ntu = s.ntu ∧
    s.tryGrant.store = s.store ∧ s.tryGrant.slots = s.slots ∧ s.tryGrant.stations = s.stations ∧
    s.tryGrant.link = s.link ∧ s.tryGrant.bus = s.bus ∧ s.tryGrant.blu = s.blu ∧
    s.tryGrant.shu = s.shu ∧ s.tryGrant.rsq = s.rsq ∧ s.tryGrant.scu = s.scu ∧
    s.tryGrant.params = s.params ∧ s.tryGrant.mail = s.mail ∧ s.tryGrant.freeCount = s.freeCount ∧
    s.tryGrant.pending = s.pending ∧ (∀ p0, s.tryGrant.param p0 = s.param p0) ∧
    (∀ i0, s.tryGrant.gen i0 = s.gen i0) ∧ s.tryGrant.timeS = s.timeS ∧
    (∀ i0 : SlotIx, s.tryGrant.slots[i0.val].gen = s.slots[i0.val].gen) := by
  unfold State.tryGrant
  (repeat' split) <;> simp [State.gen, State.param, State.timeS]

@[simp] theorem State.joinWaiters_frame (i : SlotIx) (s : State) :
    (s.joinWaiters i).now = s.now ∧ (s.joinWaiters i).port = s.port ∧ (s.joinWaiters i).ntu = s.ntu ∧
    (s.joinWaiters i).store = s.store ∧ (s.joinWaiters i).slots = s.slots ∧
    (s.joinWaiters i).stations = s.stations ∧ (s.joinWaiters i).link = s.link ∧
    (s.joinWaiters i).bus = s.bus ∧ (s.joinWaiters i).blu = s.blu ∧ (s.joinWaiters i).shu = s.shu ∧
    (s.joinWaiters i).rsq = s.rsq ∧ (s.joinWaiters i).scu = s.scu ∧ (s.joinWaiters i).lines = s.lines ∧
    (s.joinWaiters i).params = s.params ∧ (s.joinWaiters i).mail = s.mail ∧
    (s.joinWaiters i).freeCount = s.freeCount ∧ (s.joinWaiters i).pending = s.pending ∧
    (∀ p0, (s.joinWaiters i).param p0 = s.param p0) ∧ (∀ i0, (s.joinWaiters i).gen i0 = s.gen i0) ∧
    (s.joinWaiters i).timeS = s.timeS ∧
    (∀ i0 : SlotIx, (s.joinWaiters i).slots[i0.val].gen = s.slots[i0.val].gen) := by
  simp [State.joinWaiters, State.gen, State.param, State.timeS]

@[simp] theorem State.leavePermit_frame (i : SlotIx) (s : State) :
    (s.leavePermit i).now = s.now ∧ (s.leavePermit i).port = s.port ∧ (s.leavePermit i).ntu = s.ntu ∧
    (s.leavePermit i).store = s.store ∧ (s.leavePermit i).slots = s.slots ∧
    (s.leavePermit i).stations = s.stations ∧ (s.leavePermit i).link = s.link ∧
    (s.leavePermit i).bus = s.bus ∧ (s.leavePermit i).blu = s.blu ∧ (s.leavePermit i).shu = s.shu ∧
    (s.leavePermit i).rsq = s.rsq ∧ (s.leavePermit i).scu = s.scu ∧
    (s.leavePermit i).params = s.params ∧ (s.leavePermit i).mail = s.mail ∧
    (s.leavePermit i).freeCount = s.freeCount ∧ (s.leavePermit i).pending = s.pending ∧
    (∀ p0, (s.leavePermit i).param p0 = s.param p0) ∧ (∀ i0, (s.leavePermit i).gen i0 = s.gen i0) ∧
    (s.leavePermit i).timeS = s.timeS ∧
    (∀ i0 : SlotIx, (s.leavePermit i).slots[i0.val].gen = s.slots[i0.val].gen) := by
  simp [State.leavePermit, State.gen, State.param, State.timeS]

@[simp] theorem State.leaveOnline_frame (i : SlotIx) (s : State) :
    (s.leaveOnline i).now = s.now ∧ (s.leaveOnline i).port = s.port ∧ (s.leaveOnline i).ntu = s.ntu ∧
    (s.leaveOnline i).store = s.store ∧ (s.leaveOnline i).stations = s.stations ∧
    (s.leaveOnline i).link = s.link ∧ (s.leaveOnline i).bus = s.bus ∧ (s.leaveOnline i).gsq = s.gsq ∧
    (s.leaveOnline i).shu = s.shu ∧ (s.leaveOnline i).rsq = s.rsq ∧ (s.leaveOnline i).scu = s.scu ∧
    (s.leaveOnline i).lines = s.lines ∧ (s.leaveOnline i).params = s.params ∧
    (s.leaveOnline i).mail = s.mail ∧ (s.leaveOnline i).freeCount = s.freeCount ∧
    (s.leaveOnline i).pending = s.pending ∧ (∀ p0, (s.leaveOnline i).param p0 = s.param p0) ∧
    (∀ i0, (s.leaveOnline i).gen i0 = s.gen i0) ∧ (s.leaveOnline i).timeS = s.timeS ∧
    (∀ i0 : SlotIx, (s.leaveOnline i).slots[i0.val].gen = s.slots[i0.val].gen) := by
  simp [State.leaveOnline, State.gen, State.param, State.timeS]

@[simp] theorem State.enterOnline_frame (i : SlotIx) (s : State) :
    (s.enterOnline i).now = s.now ∧ (s.enterOnline i).port = s.port ∧
    (s.enterOnline i).store = s.store ∧ (s.enterOnline i).stations = s.stations ∧
    (s.enterOnline i).link = s.link ∧ (s.enterOnline i).bus = s.bus ∧ (s.enterOnline i).gsq = s.gsq ∧
    (s.enterOnline i).shu = s.shu ∧ (s.enterOnline i).rsq = s.rsq ∧ (s.enterOnline i).scu = s.scu ∧
    (s.enterOnline i).lines = s.lines ∧ (s.enterOnline i).params = s.params ∧
    (s.enterOnline i).freeCount = s.freeCount ∧ (s.enterOnline i).pending = s.pending ∧
    (∀ p0, (s.enterOnline i).param p0 = s.param p0) ∧ (∀ i0, (s.enterOnline i).gen i0 = s.gen i0) ∧
    (s.enterOnline i).timeS = s.timeS ∧
    (∀ i0 : SlotIx, (s.enterOnline i).slots[i0.val].gen = s.slots[i0.val].gen) := by
  simp [State.enterOnline, State.gen, State.param, State.timeS]

@[simp] theorem State.enterLockout_frame (i : SlotIx) (s : State) :
    (s.enterLockout i).now = s.now ∧ (s.enterLockout i).port = s.port ∧
    (s.enterLockout i).store = s.store ∧ (s.enterLockout i).slots = s.slots ∧
    (s.enterLockout i).stations = s.stations ∧ (s.enterLockout i).link = s.link ∧
    (s.enterLockout i).bus = s.bus ∧ (s.enterLockout i).blu = s.blu ∧ (s.enterLockout i).gsq = s.gsq ∧
    (s.enterLockout i).shu = s.shu ∧ (s.enterLockout i).rsq = s.rsq ∧ (s.enterLockout i).scu = s.scu ∧
    (s.enterLockout i).lines = s.lines ∧ (s.enterLockout i).params = s.params ∧
    (s.enterLockout i).freeCount = s.freeCount ∧ (s.enterLockout i).pending = s.pending ∧
    (∀ p0, (s.enterLockout i).param p0 = s.param p0) ∧ (∀ i0, (s.enterLockout i).gen i0 = s.gen i0) ∧
    (s.enterLockout i).timeS = s.timeS ∧
    (∀ i0 : SlotIx, (s.enterLockout i).slots[i0.val].gen = s.slots[i0.val].gen) := by
  simp [State.enterLockout, State.gen, State.param, State.timeS]

@[simp] theorem State.putGensetState_frame (i : SlotIx) (g : Genset) (st : GensetState) (s : State) :
    (s.putGensetState i g st).now = s.now ∧ (s.putGensetState i g st).port = s.port ∧
    (s.putGensetState i g st).ntu = s.ntu ∧ (s.putGensetState i g st).store = s.store ∧
    (s.putGensetState i g st).stations = s.stations ∧ (s.putGensetState i g st).link = s.link ∧
    (s.putGensetState i g st).bus = s.bus ∧ (s.putGensetState i g st).blu = s.blu ∧
    (s.putGensetState i g st).gsq = s.gsq ∧ (s.putGensetState i g st).shu = s.shu ∧
    (s.putGensetState i g st).rsq = s.rsq ∧ (s.putGensetState i g st).params = s.params ∧
    (s.putGensetState i g st).mail = s.mail ∧ (s.putGensetState i g st).freeCount = s.freeCount ∧
    (s.putGensetState i g st).pending = s.pending ∧
    (∀ p0, (s.putGensetState i g st).param p0 = s.param p0) ∧
    (∀ i0, (s.putGensetState i g st).gen i0 = s.gen i0) ∧ (s.putGensetState i g st).timeS = s.timeS ∧
    (∀ i0 : SlotIx, (s.putGensetState i g st).slots[i0.val].gen = s.slots[i0.val].gen) := by
  simp [State.putGensetState, State.gen, State.param, State.timeS]

@[simp] theorem State.onEntry_frame (i : SlotIx) (g : Genset) (st : GensetState) (s : State) :
    (s.onEntry i g st).now = s.now ∧ (s.onEntry i g st).port = s.port ∧
    (s.onEntry i g st).store = s.store ∧ (s.onEntry i g st).stations = s.stations ∧
    (s.onEntry i g st).link = s.link ∧ (s.onEntry i g st).bus = s.bus ∧
    (s.onEntry i g st).shu = s.shu ∧ (s.onEntry i g st).rsq = s.rsq ∧ (s.onEntry i g st).scu = s.scu ∧
    (s.onEntry i g st).params = s.params ∧ (s.onEntry i g st).freeCount = s.freeCount ∧
    (s.onEntry i g st).pending = s.pending ∧ (∀ p0, (s.onEntry i g st).param p0 = s.param p0) ∧
    (∀ i0, (s.onEntry i g st).gen i0 = s.gen i0) ∧ (s.onEntry i g st).timeS = s.timeS ∧
    (∀ i0 : SlotIx, (s.onEntry i g st).slots[i0.val].gen = s.slots[i0.val].gen) := by
  unfold State.onEntry
  split <;> simp [State.gen, State.param, State.timeS]

@[simp] theorem State.freeIfRetired_frame (i : SlotIx) (st : GensetState) (s : State) :
    (s.freeIfRetired i st).now = s.now ∧ (s.freeIfRetired i st).port = s.port ∧
    (s.freeIfRetired i st).store = s.store ∧ (s.freeIfRetired i st).stations = s.stations ∧
    (s.freeIfRetired i st).bus = s.bus ∧ (s.freeIfRetired i st).rsq = s.rsq ∧
    (s.freeIfRetired i st).params = s.params ∧ (s.freeIfRetired i st).mail = s.mail ∧
    (s.freeIfRetired i st).freeCount = s.freeCount ∧ (s.freeIfRetired i st).pending = s.pending ∧
    (∀ p0, (s.freeIfRetired i st).param p0 = s.param p0) ∧ (s.freeIfRetired i st).timeS = s.timeS := by
  simp [State.freeIfRetired, State.param, State.timeS]

@[simp] theorem State.enter_frame (i : SlotIx) (want : GensetState) (s : State) :
    (s.enter i want).now = s.now ∧ (s.enter i want).port = s.port ∧ (s.enter i want).store = s.store ∧
    (s.enter i want).stations = s.stations ∧ (s.enter i want).bus = s.bus ∧
    (s.enter i want).rsq = s.rsq ∧ (s.enter i want).params = s.params ∧
    (s.enter i want).freeCount = s.freeCount ∧ (s.enter i want).pending = s.pending ∧
    (∀ p0, (s.enter i want).param p0 = s.param p0) ∧ (s.enter i want).timeS = s.timeS := by
  unfold State.enter
  split <;> simp [State.param, State.timeS]

@[simp] theorem State.startOrder_frame (i : SlotIx) (s : State) :
    (s.startOrder i).now = s.now ∧ (s.startOrder i).port = s.port ∧ (s.startOrder i).store = s.store ∧
    (s.startOrder i).stations = s.stations ∧ (s.startOrder i).bus = s.bus ∧
    (s.startOrder i).rsq = s.rsq ∧ (s.startOrder i).params = s.params ∧
    (s.startOrder i).freeCount = s.freeCount ∧ (s.startOrder i).pending = s.pending ∧
    (∀ p0, (s.startOrder i).param p0 = s.param p0) ∧ (s.startOrder i).timeS = s.timeS := by
  unfold State.startOrder
  (repeat' split) <;> simp [State.param, State.timeS]

@[simp] theorem State.crankWaiting_frame (i : SlotIx) (s : State) :
    (s.crankWaiting i).now = s.now ∧ (s.crankWaiting i).port = s.port ∧
    (s.crankWaiting i).store = s.store ∧ (s.crankWaiting i).stations = s.stations ∧
    (s.crankWaiting i).bus = s.bus ∧ (s.crankWaiting i).rsq = s.rsq ∧
    (s.crankWaiting i).params = s.params ∧ (s.crankWaiting i).freeCount = s.freeCount ∧
    (s.crankWaiting i).pending = s.pending ∧ (∀ p0, (s.crankWaiting i).param p0 = s.param p0) ∧
    (s.crankWaiting i).timeS = s.timeS := by
  simp [State.crankWaiting, State.param, State.timeS]

@[simp] theorem State.select_frame (n e : Nat) (s : State) :
    (s.select n e).now = s.now ∧ (s.select n e).port = s.port ∧ (s.select n e).store = s.store ∧
    (s.select n e).stations = s.stations ∧ (s.select n e).bus = s.bus ∧ (s.select n e).rsq = s.rsq ∧
    (s.select n e).params = s.params ∧ (s.select n e).freeCount = s.freeCount ∧
    (s.select n e).pending = s.pending ∧ (∀ p0, (s.select n e).param p0 = s.param p0) ∧
    (s.select n e).timeS = s.timeS := by
  induction n generalizing e s with
  | zero => and_intros <;> (try intro q) <;> rfl
  | succ n ih =>
    unfold State.select
    dsimp only
    and_intros <;> (try intro q) <;> repeat' (first | rfl | (simp [ih]; done) | split)

@[simp] theorem State.runSelection_frame (s : State) :
    s.runSelection.now = s.now ∧ s.runSelection.port = s.port ∧ s.runSelection.store = s.store ∧
    s.runSelection.stations = s.stations ∧ s.runSelection.bus = s.bus ∧ s.runSelection.rsq = s.rsq ∧
    s.runSelection.params = s.params ∧ s.runSelection.freeCount = s.freeCount ∧
    s.runSelection.pending = s.pending ∧ (∀ p0, s.runSelection.param p0 = s.param p0) ∧
    s.runSelection.timeS = s.timeS := by
  simp [State.runSelection, State.param, State.timeS]

@[simp] theorem State.enterAndSelect_frame (i : SlotIx) (want : GensetState) (s : State) :
    (s.enterAndSelect i want).now = s.now ∧ (s.enterAndSelect i want).port = s.port ∧
    (s.enterAndSelect i want).store = s.store ∧ (s.enterAndSelect i want).stations = s.stations ∧
    (s.enterAndSelect i want).bus = s.bus ∧ (s.enterAndSelect i want).rsq = s.rsq ∧
    (s.enterAndSelect i want).params = s.params ∧ (s.enterAndSelect i want).freeCount = s.freeCount ∧
    (s.enterAndSelect i want).pending = s.pending ∧
    (∀ p0, (s.enterAndSelect i want).param p0 = s.param p0) ∧ (s.enterAndSelect i want).timeS = s.timeS := by
  simp [State.enterAndSelect, State.param, State.timeS]

@[simp] theorem State.startAndSelect_frame (i : SlotIx) (s : State) :
    (s.startAndSelect i).now = s.now ∧ (s.startAndSelect i).port = s.port ∧
    (s.startAndSelect i).store = s.store ∧ (s.startAndSelect i).stations = s.stations ∧
    (s.startAndSelect i).bus = s.bus ∧ (s.startAndSelect i).rsq = s.rsq ∧
    (s.startAndSelect i).params = s.params ∧ (s.startAndSelect i).freeCount = s.freeCount ∧
    (s.startAndSelect i).pending = s.pending ∧ (∀ p0, (s.startAndSelect i).param p0 = s.param p0) ∧
    (s.startAndSelect i).timeS = s.timeS := by
  simp [State.startAndSelect, State.param, State.timeS]

@[simp] theorem State.planStartOrder_frame (i : SlotIx) (s : State) :
    (s.planStartOrder i).now = s.now ∧ (s.planStartOrder i).port = s.port ∧
    (s.planStartOrder i).store = s.store ∧ (s.planStartOrder i).stations = s.stations ∧
    (s.planStartOrder i).bus = s.bus ∧ (s.planStartOrder i).rsq = s.rsq ∧
    (s.planStartOrder i).params = s.params ∧ (s.planStartOrder i).freeCount = s.freeCount ∧
    (s.planStartOrder i).pending = s.pending ∧ (∀ p0, (s.planStartOrder i).param p0 = s.param p0) ∧
    (s.planStartOrder i).timeS = s.timeS := by
  unfold State.planStartOrder
  split <;> simp [State.param, State.timeS]

@[simp] theorem State.stopOrder_frame (i : SlotIx) (s : State) :
    (s.stopOrder i).now = s.now ∧ (s.stopOrder i).port = s.port ∧ (s.stopOrder i).store = s.store ∧
    (s.stopOrder i).bus = s.bus ∧ (s.stopOrder i).rsq = s.rsq ∧ (s.stopOrder i).params = s.params ∧
    (s.stopOrder i).freeCount = s.freeCount ∧ (s.stopOrder i).pending = s.pending ∧
    (∀ p0, (s.stopOrder i).param p0 = s.param p0) ∧ (s.stopOrder i).timeS = s.timeS := by
  simp [State.stopOrder, State.param, State.timeS]

@[simp] theorem State.useAttempt_frame (i : SlotIx) (s : State) :
    (s.useAttempt i).now = s.now ∧ (s.useAttempt i).port = s.port ∧ (s.useAttempt i).ntu = s.ntu ∧
    (s.useAttempt i).store = s.store ∧ (s.useAttempt i).stations = s.stations ∧
    (s.useAttempt i).link = s.link ∧ (s.useAttempt i).bus = s.bus ∧ (s.useAttempt i).blu = s.blu ∧
    (s.useAttempt i).gsq = s.gsq ∧ (s.useAttempt i).shu = s.shu ∧ (s.useAttempt i).rsq = s.rsq ∧
    (s.useAttempt i).scu = s.scu ∧ (s.useAttempt i).lines = s.lines ∧
    (s.useAttempt i).params = s.params ∧ (s.useAttempt i).mail = s.mail ∧
    (s.useAttempt i).freeCount = s.freeCount ∧ (s.useAttempt i).pending = s.pending ∧
    (∀ p0, (s.useAttempt i).param p0 = s.param p0) ∧ (∀ i0, (s.useAttempt i).gen i0 = s.gen i0) ∧
    (s.useAttempt i).timeS = s.timeS ∧
    (∀ i0 : SlotIx, (s.useAttempt i).slots[i0.val].gen = s.slots[i0.val].gen) := by
  simp [State.useAttempt, State.gen, State.param, State.timeS]

@[simp] theorem State.faultReported_frame (i : SlotIx) (s : State) :
    (s.faultReported i).now = s.now ∧ (s.faultReported i).port = s.port ∧
    (s.faultReported i).store = s.store ∧ (s.faultReported i).stations = s.stations ∧
    (s.faultReported i).bus = s.bus ∧ (s.faultReported i).rsq = s.rsq ∧
    (s.faultReported i).params = s.params ∧ (s.faultReported i).freeCount = s.freeCount ∧
    (s.faultReported i).pending = s.pending ∧ (∀ p0, (s.faultReported i).param p0 = s.param p0) ∧
    (s.faultReported i).timeS = s.timeS := by
  and_intros <;> (try intro q) <;> first
    | rfl
    | (simp [State.faultReported, State.param, State.timeS]; done)
    | (unfold State.faultReported; dsimp only; repeat' (first | rfl | (simp [State.param, State.timeS]; done) | split))

@[simp] theorem State.unloadDone_frame (i : SlotIx) (s : State) :
    (s.unloadDone i).now = s.now ∧ (s.unloadDone i).port = s.port ∧ (s.unloadDone i).store = s.store ∧
    (s.unloadDone i).stations = s.stations ∧ (s.unloadDone i).bus = s.bus ∧
    (s.unloadDone i).rsq = s.rsq ∧ (s.unloadDone i).params = s.params ∧
    (s.unloadDone i).freeCount = s.freeCount ∧ (s.unloadDone i).pending = s.pending ∧
    (∀ p0, (s.unloadDone i).param p0 = s.param p0) ∧ (s.unloadDone i).timeS = s.timeS := by
  simp [State.unloadDone, State.param, State.timeS]

@[simp] theorem State.unloadReport_frame (i : SlotIx) (s : State) :
    (s.unloadReport i).now = s.now ∧ (s.unloadReport i).port = s.port ∧
    (s.unloadReport i).store = s.store ∧ (s.unloadReport i).stations = s.stations ∧
    (s.unloadReport i).bus = s.bus ∧ (s.unloadReport i).rsq = s.rsq ∧
    (s.unloadReport i).params = s.params ∧ (s.unloadReport i).freeCount = s.freeCount ∧
    (s.unloadReport i).pending = s.pending ∧ (∀ p0, (s.unloadReport i).param p0 = s.param p0) ∧
    (s.unloadReport i).timeS = s.timeS := by
  unfold State.unloadReport
  (repeat' split) <;> simp [State.param, State.timeS]

@[simp] theorem State.deriveGenset_frame (i : SlotIx) (s : State) :
    (s.deriveGenset i).now = s.now ∧ (s.deriveGenset i).port = s.port ∧
    (s.deriveGenset i).ntu = s.ntu ∧ (s.deriveGenset i).store = s.store ∧
    (s.deriveGenset i).stations = s.stations ∧ (s.deriveGenset i).link = s.link ∧
    (s.deriveGenset i).bus = s.bus ∧ (s.deriveGenset i).blu = s.blu ∧ (s.deriveGenset i).gsq = s.gsq ∧
    (s.deriveGenset i).shu = s.shu ∧ (s.deriveGenset i).rsq = s.rsq ∧
    (s.deriveGenset i).params = s.params ∧ (s.deriveGenset i).mail = s.mail ∧
    (s.deriveGenset i).freeCount = s.freeCount ∧ (s.deriveGenset i).pending = s.pending ∧
    (∀ p0, (s.deriveGenset i).param p0 = s.param p0) ∧ (∀ i0, (s.deriveGenset i).gen i0 = s.gen i0) ∧
    (s.deriveGenset i).timeS = s.timeS ∧
    (∀ i0 : SlotIx, (s.deriveGenset i).slots[i0.val].gen = s.slots[i0.val].gen) := by
  unfold State.deriveGenset
  split <;> simp [State.gen, State.param, State.timeS]

@[simp] theorem State.onGensetExpiry_port (i : SlotIx) (st : GensetState) (f : State → State) (h : ∀ s,
    (f s).port = s.port) (s : State) : (s.onGensetExpiry i st f).port = s.port := by
  unfold State.onGensetExpiry
  split <;> simp [h]

@[simp] theorem State.onGensetExpiry_ntu (i : SlotIx) (st : GensetState) (f : State → State) (h : ∀ s,
    (f s).ntu = s.ntu) (s : State) : (s.onGensetExpiry i st f).ntu = s.ntu := by
  unfold State.onGensetExpiry
  split <;> simp [h]

@[simp] theorem State.onGensetExpiry_store (i : SlotIx) (st : GensetState) (f : State → State) (h : ∀ s,
    (f s).store = s.store) (s : State) : (s.onGensetExpiry i st f).store = s.store := by
  unfold State.onGensetExpiry
  split <;> simp [h]

@[simp] theorem State.onGensetExpiry_slots (i : SlotIx) (st : GensetState) (f : State → State) (h : ∀ s,
    (f s).slots = s.slots) (s : State) : (s.onGensetExpiry i st f).slots = s.slots := by
  unfold State.onGensetExpiry
  split <;> simp [h]

@[simp] theorem State.onGensetExpiry_stations (i : SlotIx) (st : GensetState) (f : State → State) (h : ∀
    s, (f s).stations = s.stations) (s : State) : (s.onGensetExpiry i st f).stations = s.stations := by
  unfold State.onGensetExpiry
  split <;> simp [h]

@[simp] theorem State.onGensetExpiry_link (i : SlotIx) (st : GensetState) (f : State → State) (h : ∀ s,
    (f s).link = s.link) (s : State) : (s.onGensetExpiry i st f).link = s.link := by
  unfold State.onGensetExpiry
  split <;> simp [h]

@[simp] theorem State.onGensetExpiry_bus (i : SlotIx) (st : GensetState) (f : State → State) (h : ∀ s,
    (f s).bus = s.bus) (s : State) : (s.onGensetExpiry i st f).bus = s.bus := by
  unfold State.onGensetExpiry
  split <;> simp [h]

@[simp] theorem State.onGensetExpiry_blu (i : SlotIx) (st : GensetState) (f : State → State) (h : ∀ s,
    (f s).blu = s.blu) (s : State) : (s.onGensetExpiry i st f).blu = s.blu := by
  unfold State.onGensetExpiry
  split <;> simp [h]

@[simp] theorem State.onGensetExpiry_gsq (i : SlotIx) (st : GensetState) (f : State → State) (h : ∀ s,
    (f s).gsq = s.gsq) (s : State) : (s.onGensetExpiry i st f).gsq = s.gsq := by
  unfold State.onGensetExpiry
  split <;> simp [h]

@[simp] theorem State.onGensetExpiry_shu (i : SlotIx) (st : GensetState) (f : State → State) (h : ∀ s,
    (f s).shu = s.shu) (s : State) : (s.onGensetExpiry i st f).shu = s.shu := by
  unfold State.onGensetExpiry
  split <;> simp [h]

@[simp] theorem State.onGensetExpiry_rsq (i : SlotIx) (st : GensetState) (f : State → State) (h : ∀ s,
    (f s).rsq = s.rsq) (s : State) : (s.onGensetExpiry i st f).rsq = s.rsq := by
  unfold State.onGensetExpiry
  split <;> simp [h]

@[simp] theorem State.onGensetExpiry_lines (i : SlotIx) (st : GensetState) (f : State → State) (h : ∀ s,
    (f s).lines = s.lines) (s : State) : (s.onGensetExpiry i st f).lines = s.lines := by
  unfold State.onGensetExpiry
  split <;> simp [h]

@[simp] theorem State.onGensetExpiry_params (i : SlotIx) (st : GensetState) (f : State → State) (h : ∀
    s, (f s).params = s.params) (s : State) : (s.onGensetExpiry i st f).params = s.params := by
  unfold State.onGensetExpiry
  split <;> simp [h]

@[simp] theorem State.onGensetExpiry_mail (i : SlotIx) (st : GensetState) (f : State → State) (h : ∀ s,
    (f s).mail = s.mail) (s : State) : (s.onGensetExpiry i st f).mail = s.mail := by
  unfold State.onGensetExpiry
  split <;> simp [h]

@[simp] theorem State.onGensetExpiry_freeCount (i : SlotIx) (st : GensetState) (f : State → State) (h :
    ∀ s, (f s).freeCount = s.freeCount) (s : State) : (s.onGensetExpiry i st f).freeCount = s.freeCount
    := by
  unfold State.onGensetExpiry
  split <;> simp [h]

@[simp] theorem State.onGensetExpiry_pending (i : SlotIx) (st : GensetState) (f : State → State) (h : ∀
    s, (f s).pending = s.pending) (s : State) : (s.onGensetExpiry i st f).pending = s.pending := by
  unfold State.onGensetExpiry
  split <;> simp [h]

@[simp] theorem State.onGensetExpiry_param (i : SlotIx) (st : GensetState) (f : State → State) (h : ∀ s,
    (∀ p0, (f s).param p0 = s.param p0)) (s : State) : (∀ p0, (s.onGensetExpiry i st f).param p0 =
    s.param p0) := by
  unfold State.onGensetExpiry
  split <;> simp [h]

@[simp] theorem State.onGensetExpiry_gen (i : SlotIx) (st : GensetState) (f : State → State) (h : ∀ s,
    (∀ i0, (f s).gen i0 = s.gen i0)) (s : State) : (∀ i0, (s.onGensetExpiry i st f).gen i0 = s.gen i0)
    := by
  unfold State.onGensetExpiry
  split <;> simp [h]

@[simp] theorem State.onGensetExpiry_sgen (i : SlotIx) (st : GensetState) (f : State → State) (h : ∀ s,
    (∀ i0 : SlotIx, (f s).slots[i0.val].gen = s.slots[i0.val].gen)) (s : State) : (∀ i0 : SlotIx,
    (s.onGensetExpiry i st f).slots[i0.val].gen = s.slots[i0.val].gen) := by
  unfold State.onGensetExpiry
  split <;> simp [h]

@[simp] theorem State.crankExpired_frame (i : SlotIx) (s : State) :
    (s.crankExpired i).now = s.now ∧ (s.crankExpired i).port = s.port ∧
    (s.crankExpired i).store = s.store ∧ (s.crankExpired i).stations = s.stations ∧
    (s.crankExpired i).bus = s.bus ∧ (s.crankExpired i).rsq = s.rsq ∧
    (s.crankExpired i).params = s.params ∧ (s.crankExpired i).freeCount = s.freeCount ∧
    (s.crankExpired i).pending = s.pending ∧ (∀ p0, (s.crankExpired i).param p0 = s.param p0) ∧
    (s.crankExpired i).timeS = s.timeS := by
  simp [State.crankExpired, State.param, State.timeS]

@[simp] theorem State.syncExpired_frame (i : SlotIx) (s : State) :
    (s.syncExpired i).now = s.now ∧ (s.syncExpired i).port = s.port ∧
    (s.syncExpired i).store = s.store ∧ (s.syncExpired i).stations = s.stations ∧
    (s.syncExpired i).bus = s.bus ∧ (s.syncExpired i).rsq = s.rsq ∧
    (s.syncExpired i).params = s.params ∧ (s.syncExpired i).freeCount = s.freeCount ∧
    (s.syncExpired i).pending = s.pending ∧ (∀ p0, (s.syncExpired i).param p0 = s.param p0) ∧
    (s.syncExpired i).timeS = s.timeS := by
  simp [State.syncExpired, State.param, State.timeS]

@[simp] theorem State.coolStopped_frame (i : SlotIx) (s : State) :
    (s.coolStopped i).now = s.now ∧ (s.coolStopped i).port = s.port ∧
    (s.coolStopped i).store = s.store ∧ (s.coolStopped i).stations = s.stations ∧
    (s.coolStopped i).bus = s.bus ∧ (s.coolStopped i).rsq = s.rsq ∧
    (s.coolStopped i).params = s.params ∧ (s.coolStopped i).freeCount = s.freeCount ∧
    (s.coolStopped i).pending = s.pending ∧ (∀ p0, (s.coolStopped i).param p0 = s.param p0) ∧
    (s.coolStopped i).timeS = s.timeS := by
  simp [State.coolStopped, State.param, State.timeS]

@[simp] theorem State.coolExpired_frame (i : SlotIx) (s : State) :
    (s.coolExpired i).now = s.now ∧ (s.coolExpired i).port = s.port ∧
    (s.coolExpired i).store = s.store ∧ (s.coolExpired i).stations = s.stations ∧
    (s.coolExpired i).bus = s.bus ∧ (s.coolExpired i).rsq = s.rsq ∧
    (s.coolExpired i).params = s.params ∧ (s.coolExpired i).freeCount = s.freeCount ∧
    (s.coolExpired i).pending = s.pending ∧ (∀ p0, (s.coolExpired i).param p0 = s.param p0) ∧
    (s.coolExpired i).timeS = s.timeS := by
  unfold State.coolExpired
  split <;> simp [State.param, State.timeS]

@[simp] theorem State.gensetTrip_frame (i : SlotIx) (s : State) :
    (s.gensetTrip i).now = s.now ∧ (s.gensetTrip i).port = s.port ∧ (s.gensetTrip i).store = s.store ∧
    (s.gensetTrip i).stations = s.stations ∧ (s.gensetTrip i).bus = s.bus ∧
    (s.gensetTrip i).rsq = s.rsq ∧ (s.gensetTrip i).params = s.params ∧
    (s.gensetTrip i).freeCount = s.freeCount ∧ (s.gensetTrip i).pending = s.pending ∧
    (∀ p0, (s.gensetTrip i).param p0 = s.param p0) ∧ (s.gensetTrip i).timeS = s.timeS := by
  simp [State.gensetTrip, State.param, State.timeS]

@[simp] theorem State.breakerClosed_frame (i : SlotIx) (g : Genset) (s : State) :
    (s.breakerClosed i g).now = s.now ∧ (s.breakerClosed i g).port = s.port ∧
    (s.breakerClosed i g).store = s.store ∧ (s.breakerClosed i g).stations = s.stations ∧
    (s.breakerClosed i g).bus = s.bus ∧ (s.breakerClosed i g).rsq = s.rsq ∧
    (s.breakerClosed i g).params = s.params ∧ (s.breakerClosed i g).freeCount = s.freeCount ∧
    (s.breakerClosed i g).pending = s.pending ∧ (∀ p0, (s.breakerClosed i g).param p0 = s.param p0) ∧
    (s.breakerClosed i g).timeS = s.timeS := by
  unfold State.breakerClosed
  split <;> simp [State.param, State.timeS]

@[simp] theorem State.breakerOpened_frame (i : SlotIx) (g : Genset) (s : State) :
    (s.breakerOpened i g).now = s.now ∧ (s.breakerOpened i g).port = s.port ∧
    (s.breakerOpened i g).store = s.store ∧ (s.breakerOpened i g).stations = s.stations ∧
    (s.breakerOpened i g).bus = s.bus ∧ (s.breakerOpened i g).rsq = s.rsq ∧
    (s.breakerOpened i g).params = s.params ∧ (s.breakerOpened i g).freeCount = s.freeCount ∧
    (s.breakerOpened i g).pending = s.pending ∧ (∀ p0, (s.breakerOpened i g).param p0 = s.param p0) ∧
    (s.breakerOpened i g).timeS = s.timeS := by
  unfold State.breakerOpened
  split <;> simp [State.param, State.timeS]

@[simp] theorem State.permitBreaker_frame (l : LineIx) (closed : Bool) (s : State) :
    (s.permitBreaker l closed).now = s.now ∧ (s.permitBreaker l closed).port = s.port ∧
    (s.permitBreaker l closed).ntu = s.ntu ∧ (s.permitBreaker l closed).store = s.store ∧
    (s.permitBreaker l closed).slots = s.slots ∧ (s.permitBreaker l closed).stations = s.stations ∧
    (s.permitBreaker l closed).link = s.link ∧ (s.permitBreaker l closed).bus = s.bus ∧
    (s.permitBreaker l closed).blu = s.blu ∧ (s.permitBreaker l closed).shu = s.shu ∧
    (s.permitBreaker l closed).rsq = s.rsq ∧ (s.permitBreaker l closed).scu = s.scu ∧
    (s.permitBreaker l closed).params = s.params ∧ (s.permitBreaker l closed).mail = s.mail ∧
    (s.permitBreaker l closed).freeCount = s.freeCount ∧
    (s.permitBreaker l closed).pending = s.pending ∧
    (∀ p0, (s.permitBreaker l closed).param p0 = s.param p0) ∧
    (∀ i0, (s.permitBreaker l closed).gen i0 = s.gen i0) ∧ (s.permitBreaker l closed).timeS = s.timeS ∧
    (∀ i0 : SlotIx, (s.permitBreaker l closed).slots[i0.val].gen = s.slots[i0.val].gen) := by
  unfold State.permitBreaker
  (repeat' split) <;> simp [State.gen, State.param, State.timeS]

@[simp] theorem State.gsqBreaker_frame (l : LineIx) (closed : Bool) (s : State) :
    (s.gsqBreaker l closed).now = s.now ∧ (s.gsqBreaker l closed).port = s.port ∧
    (s.gsqBreaker l closed).store = s.store ∧ (s.gsqBreaker l closed).stations = s.stations ∧
    (s.gsqBreaker l closed).bus = s.bus ∧ (s.gsqBreaker l closed).rsq = s.rsq ∧
    (s.gsqBreaker l closed).params = s.params ∧ (s.gsqBreaker l closed).freeCount = s.freeCount ∧
    (s.gsqBreaker l closed).pending = s.pending ∧
    (∀ p0, (s.gsqBreaker l closed).param p0 = s.param p0) ∧ (s.gsqBreaker l closed).timeS = s.timeS := by
  unfold State.gsqBreaker
  split <;> simp [State.param, State.timeS]

@[simp] theorem State.readyChanged_frame (i : SlotIx) (g : Genset) (active : Bool) (s : State) :
    (s.readyChanged i g active).now = s.now ∧ (s.readyChanged i g active).port = s.port ∧
    (s.readyChanged i g active).store = s.store ∧ (s.readyChanged i g active).stations = s.stations ∧
    (s.readyChanged i g active).bus = s.bus ∧ (s.readyChanged i g active).rsq = s.rsq ∧
    (s.readyChanged i g active).params = s.params ∧
    (s.readyChanged i g active).freeCount = s.freeCount ∧
    (s.readyChanged i g active).pending = s.pending ∧
    (∀ p0, (s.readyChanged i g active).param p0 = s.param p0) ∧
    (s.readyChanged i g active).timeS = s.timeS := by
  unfold State.readyChanged
  split <;> simp [State.param, State.timeS]

@[simp] theorem State.gsqReady_frame (l : LineIx) (active : Bool) (s : State) :
    (s.gsqReady l active).now = s.now ∧ (s.gsqReady l active).port = s.port ∧
    (s.gsqReady l active).store = s.store ∧ (s.gsqReady l active).stations = s.stations ∧
    (s.gsqReady l active).bus = s.bus ∧ (s.gsqReady l active).rsq = s.rsq ∧
    (s.gsqReady l active).params = s.params ∧ (s.gsqReady l active).freeCount = s.freeCount ∧
    (s.gsqReady l active).pending = s.pending ∧ (∀ p0, (s.gsqReady l active).param p0 = s.param p0) ∧
    (s.gsqReady l active).timeS = s.timeS := by
  unfold State.gsqReady
  split <;> simp [State.param, State.timeS]

@[simp] theorem State.gsqDemand_frame (kw : Nat) (s : State) :
    (s.gsqDemand kw).now = s.now ∧ (s.gsqDemand kw).port = s.port ∧ (s.gsqDemand kw).store = s.store ∧
    (s.gsqDemand kw).stations = s.stations ∧ (s.gsqDemand kw).bus = s.bus ∧
    (s.gsqDemand kw).rsq = s.rsq ∧ (s.gsqDemand kw).params = s.params ∧
    (s.gsqDemand kw).freeCount = s.freeCount ∧ (s.gsqDemand kw).pending = s.pending ∧
    (∀ p0, (s.gsqDemand kw).param p0 = s.param p0) ∧ (s.gsqDemand kw).timeS = s.timeS := by
  simp [State.gsqDemand, State.param, State.timeS]

@[simp] theorem State.gsqLive_frame (s : State) :
    s.gsqLive.now = s.now ∧ s.gsqLive.port = s.port ∧ s.gsqLive.ntu = s.ntu ∧
    s.gsqLive.store = s.store ∧ s.gsqLive.slots = s.slots ∧ s.gsqLive.stations = s.stations ∧
    s.gsqLive.link = s.link ∧ s.gsqLive.bus = s.bus ∧ s.gsqLive.blu = s.blu ∧ s.gsqLive.shu = s.shu ∧
    s.gsqLive.rsq = s.rsq ∧ s.gsqLive.scu = s.scu ∧ s.gsqLive.params = s.params ∧
    s.gsqLive.mail = s.mail ∧ s.gsqLive.freeCount = s.freeCount ∧ s.gsqLive.pending = s.pending ∧
    (∀ p0, s.gsqLive.param p0 = s.param p0) ∧ (∀ i0, s.gsqLive.gen i0 = s.gen i0) ∧
    s.gsqLive.timeS = s.timeS ∧ (∀ i0 : SlotIx, s.gsqLive.slots[i0.val].gen = s.slots[i0.val].gen) := by
  simp [State.gsqLive, State.gen, State.param, State.timeS]

@[simp] theorem State.gsqDark_frame (s : State) :
    s.gsqDark.now = s.now ∧ s.gsqDark.port = s.port ∧ s.gsqDark.ntu = s.ntu ∧
    s.gsqDark.store = s.store ∧ s.gsqDark.stations = s.stations ∧ s.gsqDark.link = s.link ∧
    s.gsqDark.bus = s.bus ∧ s.gsqDark.blu = s.blu ∧ s.gsqDark.shu = s.shu ∧ s.gsqDark.rsq = s.rsq ∧
    s.gsqDark.scu = s.scu ∧ s.gsqDark.params = s.params ∧ s.gsqDark.mail = s.mail ∧
    s.gsqDark.freeCount = s.freeCount ∧ s.gsqDark.pending = s.pending ∧
    (∀ p0, s.gsqDark.param p0 = s.param p0) ∧ (∀ i0, s.gsqDark.gen i0 = s.gen i0) ∧
    s.gsqDark.timeS = s.timeS ∧ (∀ i0 : SlotIx, s.gsqDark.slots[i0.val].gen = s.slots[i0.val].gen) := by
  simp [State.gsqDark, State.gen, State.param, State.timeS]

@[simp] theorem State.gsqGrid_frame (old new : GridState) (s : State) :
    (s.gsqGrid old new).now = s.now ∧ (s.gsqGrid old new).port = s.port ∧
    (s.gsqGrid old new).ntu = s.ntu ∧ (s.gsqGrid old new).store = s.store ∧
    (s.gsqGrid old new).stations = s.stations ∧ (s.gsqGrid old new).link = s.link ∧
    (s.gsqGrid old new).bus = s.bus ∧ (s.gsqGrid old new).blu = s.blu ∧
    (s.gsqGrid old new).shu = s.shu ∧ (s.gsqGrid old new).rsq = s.rsq ∧
    (s.gsqGrid old new).scu = s.scu ∧ (s.gsqGrid old new).params = s.params ∧
    (s.gsqGrid old new).mail = s.mail ∧ (s.gsqGrid old new).freeCount = s.freeCount ∧
    (s.gsqGrid old new).pending = s.pending ∧ (∀ p0, (s.gsqGrid old new).param p0 = s.param p0) ∧
    (∀ i0, (s.gsqGrid old new).gen i0 = s.gen i0) ∧ (s.gsqGrid old new).timeS = s.timeS ∧
    (∀ i0 : SlotIx, (s.gsqGrid old new).slots[i0.val].gen = s.slots[i0.val].gen) := by
  unfold State.gsqGrid
  split <;> simp [State.gen, State.param, State.timeS]

@[simp] theorem State.startRequest_frame (h : Handle) (i : SlotIx) (s : State) :
    (s.startRequest h i).now = s.now ∧ (s.startRequest h i).store = s.store ∧
    (s.startRequest h i).stations = s.stations ∧ (s.startRequest h i).bus = s.bus ∧
    (s.startRequest h i).rsq = s.rsq ∧ (s.startRequest h i).params = s.params ∧
    (s.startRequest h i).pending = s.pending ∧ (∀ p0, (s.startRequest h i).param p0 = s.param p0) ∧
    (s.startRequest h i).timeS = s.timeS := by
  unfold State.startRequest
  split <;> simp [State.param, State.timeS]

@[simp] theorem State.hostStop_frame (i : SlotIx) (g : Genset) (s : State) :
    (s.hostStop i g).now = s.now ∧ (s.hostStop i g).port = s.port ∧ (s.hostStop i g).store = s.store ∧
    (s.hostStop i g).bus = s.bus ∧ (s.hostStop i g).rsq = s.rsq ∧ (s.hostStop i g).params = s.params ∧
    (s.hostStop i g).freeCount = s.freeCount ∧ (s.hostStop i g).pending = s.pending ∧
    (∀ p0, (s.hostStop i g).param p0 = s.param p0) ∧ (s.hostStop i g).timeS = s.timeS := by
  unfold State.hostStop
  split <;> simp [State.param, State.timeS]

@[simp] theorem State.stopRequest_frame (h : Handle) (i : SlotIx) (s : State) :
    (s.stopRequest h i).now = s.now ∧ (s.stopRequest h i).store = s.store ∧
    (s.stopRequest h i).bus = s.bus ∧ (s.stopRequest h i).rsq = s.rsq ∧
    (s.stopRequest h i).params = s.params ∧ (s.stopRequest h i).pending = s.pending ∧
    (∀ p0, (s.stopRequest h i).param p0 = s.param p0) ∧ (s.stopRequest h i).timeS = s.timeS := by
  unfold State.stopRequest
  split <;> simp [State.param, State.timeS]

@[simp] theorem State.clearLockoutRequest_frame (h : Handle) (i : SlotIx) (s : State) :
    (s.clearLockoutRequest h i).now = s.now ∧ (s.clearLockoutRequest h i).store = s.store ∧
    (s.clearLockoutRequest h i).stations = s.stations ∧ (s.clearLockoutRequest h i).bus = s.bus ∧
    (s.clearLockoutRequest h i).rsq = s.rsq ∧ (s.clearLockoutRequest h i).params = s.params ∧
    (s.clearLockoutRequest h i).pending = s.pending ∧
    (∀ p0, (s.clearLockoutRequest h i).param p0 = s.param p0) ∧
    (s.clearLockoutRequest h i).timeS = s.timeS := by
  simp [State.clearLockoutRequest, State.param, State.timeS]

end Sys2Proof.Machine
end

