-- ==== Sys2Proof/Laws/FrameBalance.lean ====
section
/-! SUPPORT. What the balance computation (Machine/Balance.lean) leave unchanged: for each operation, the fields of the state that it keeps, as
simp lemmas, so that no later proof unfolds it for a field it does not touch. -/

namespace Sys2Proof.Machine

@[simp] theorem State.putSetpoint_frame (i : SlotIx) (v : Nat) (s : State) :
    (s.putSetpoint i v).now = s.now ∧ (s.putSetpoint i v).port = s.port ∧
    (s.putSetpoint i v).ntu = s.ntu ∧ (s.putSetpoint i v).store = s.store ∧
    (s.putSetpoint i v).stations = s.stations ∧ (s.putSetpoint i v).link = s.link ∧
    (s.putSetpoint i v).bus = s.bus ∧ (s.putSetpoint i v).blu = s.blu ∧
    (s.putSetpoint i v).gsq = s.gsq ∧ (s.putSetpoint i v).shu = s.shu ∧
    (s.putSetpoint i v).rsq = s.rsq ∧ (s.putSetpoint i v).scu = s.scu ∧
    (s.putSetpoint i v).lines = s.lines ∧ (s.putSetpoint i v).params = s.params ∧
    (s.putSetpoint i v).mail = s.mail ∧ (s.putSetpoint i v).freeCount = s.freeCount ∧
    (s.putSetpoint i v).pending = s.pending ∧ (∀ p0, (s.putSetpoint i v).param p0 = s.param p0) ∧
    (∀ i0, (s.putSetpoint i v).gen i0 = s.gen i0) ∧ (s.putSetpoint i v).timeS = s.timeS ∧
    (∀ i0 : SlotIx, (s.putSetpoint i v).slots[i0.val].gen = s.slots[i0.val].gen) := by
  simp [State.putSetpoint, State.gen, State.param, State.timeS]

@[simp] theorem State.putSetpoints_frame (s : State) :
    s.putSetpoints.now = s.now ∧ s.putSetpoints.port = s.port ∧ s.putSetpoints.ntu = s.ntu ∧
    s.putSetpoints.store = s.store ∧ s.putSetpoints.stations = s.stations ∧
    s.putSetpoints.link = s.link ∧ s.putSetpoints.bus = s.bus ∧ s.putSetpoints.blu = s.blu ∧
    s.putSetpoints.gsq = s.gsq ∧ s.putSetpoints.shu = s.shu ∧ s.putSetpoints.rsq = s.rsq ∧
    s.putSetpoints.scu = s.scu ∧ s.putSetpoints.lines = s.lines ∧ s.putSetpoints.params = s.params ∧
    s.putSetpoints.mail = s.mail ∧ s.putSetpoints.freeCount = s.freeCount ∧
    s.putSetpoints.pending = s.pending ∧ (∀ p0, s.putSetpoints.param p0 = s.param p0) ∧
    (∀ i0, s.putSetpoints.gen i0 = s.gen i0) ∧ s.putSetpoints.timeS = s.timeS ∧
    (∀ i0 : SlotIx, s.putSetpoints.slots[i0.val].gen = s.slots[i0.val].gen) := by
  simp [State.putSetpoints, State.gen, State.param, State.timeS]

theorem sendOne_keeps {β : Type} (P : State → β) (h : ∀ i v s, P (s.requestSetpoint i v) = P s)
    (acc : State × List SlotIx) (i : SlotIx) : P (sendOne acc i).1 = P acc.1 := by
  unfold sendOne
  split
  · exact h _ _ _
  · rfl
theorem sendSetpoints_keeps {β : Type} (P : State → β) (h : ∀ i v s, P (s.requestSetpoint i v) = P s)
    (s : State) : P s.sendSetpoints.1 = P s := by
  unfold State.sendSetpoints
  generalize (s.pvSet.map Prod.fst) = l
  have : ∀ acc : State × List SlotIx, P (l.foldl sendOne acc).1 = P acc.1 := by
    induction l with
    | nil => intro _; rfl
    | cons i l ih => intro acc; rw [List.foldl_cons, ih, sendOne_keeps P h]
  exact this _

@[simp] theorem State.sendSetpoints_frame (s : State) :
    s.sendSetpoints.1.now = s.now ∧ s.sendSetpoints.1.port = s.port ∧ s.sendSetpoints.1.ntu = s.ntu ∧
    s.sendSetpoints.1.store = s.store ∧ s.sendSetpoints.1.bus = s.bus ∧ s.sendSetpoints.1.blu = s.blu ∧
    s.sendSetpoints.1.gsq = s.gsq ∧ s.sendSetpoints.1.shu = s.shu ∧ s.sendSetpoints.1.rsq = s.rsq ∧
    s.sendSetpoints.1.scu = s.scu ∧ s.sendSetpoints.1.lines = s.lines ∧
    s.sendSetpoints.1.params = s.params ∧ s.sendSetpoints.1.mail = s.mail ∧
    s.sendSetpoints.1.freeCount = s.freeCount ∧ s.sendSetpoints.1.pending = s.pending ∧
    s.sendSetpoints.1.timeS = s.timeS := by
  exact ⟨sendSetpoints_keeps (fun s => s.now) (by simp) s,
    sendSetpoints_keeps (fun s => s.port) (by simp) s,
    sendSetpoints_keeps (fun s => s.ntu) (by simp) s,
    sendSetpoints_keeps (fun s => s.store) (by simp) s,
    sendSetpoints_keeps (fun s => s.bus) (by simp) s,
    sendSetpoints_keeps (fun s => s.blu) (by simp) s,
    sendSetpoints_keeps (fun s => s.gsq) (by simp) s,
    sendSetpoints_keeps (fun s => s.shu) (by simp) s,
    sendSetpoints_keeps (fun s => s.rsq) (by simp) s,
    sendSetpoints_keeps (fun s => s.scu) (by simp) s,
    sendSetpoints_keeps (fun s => s.lines) (by simp) s,
    sendSetpoints_keeps (fun s => s.params) (by simp) s,
    sendSetpoints_keeps (fun s => s.mail) (by simp) s,
    sendSetpoints_keeps (fun s => s.freeCount) (by simp) s,
    sendSetpoints_keeps (fun s => s.pending) (by simp) s,
    sendSetpoints_keeps (fun s => s.timeS) (by simp [State.timeS]) s⟩

@[simp] theorem State.resendRetiring_frame (s : State) :
    s.resendRetiring.now = s.now ∧ s.resendRetiring.port = s.port ∧ s.resendRetiring.ntu = s.ntu ∧
    s.resendRetiring.store = s.store ∧ s.resendRetiring.bus = s.bus ∧ s.resendRetiring.blu = s.blu ∧
    s.resendRetiring.gsq = s.gsq ∧ s.resendRetiring.shu = s.shu ∧ s.resendRetiring.rsq = s.rsq ∧
    s.resendRetiring.scu = s.scu ∧ s.resendRetiring.lines = s.lines ∧
    s.resendRetiring.params = s.params ∧ s.resendRetiring.mail = s.mail ∧
    s.resendRetiring.freeCount = s.freeCount ∧ s.resendRetiring.pending = s.pending ∧
    (∀ p0, s.resendRetiring.param p0 = s.param p0) ∧ s.resendRetiring.timeS = s.timeS := by
  simp [State.resendRetiring, State.param, State.timeS]

@[simp] theorem State.dropStop_frame (s : State) :
    s.dropStop.now = s.now ∧ s.dropStop.port = s.port ∧ s.dropStop.ntu = s.ntu ∧
    s.dropStop.store = s.store ∧ s.dropStop.slots = s.slots ∧ s.dropStop.stations = s.stations ∧
    s.dropStop.link = s.link ∧ s.dropStop.bus = s.bus ∧ s.dropStop.gsq = s.gsq ∧
    s.dropStop.shu = s.shu ∧ s.dropStop.rsq = s.rsq ∧ s.dropStop.lines = s.lines ∧
    s.dropStop.params = s.params ∧ s.dropStop.mail = s.mail ∧ s.dropStop.freeCount = s.freeCount ∧
    s.dropStop.pending = s.pending ∧ (∀ p0, s.dropStop.param p0 = s.param p0) ∧
    (∀ i0, s.dropStop.gen i0 = s.gen i0) ∧ s.dropStop.timeS = s.timeS ∧
    (∀ i0 : SlotIx, s.dropStop.slots[i0.val].gen = s.slots[i0.val].gen) := by
  simp [State.dropStop, State.gen, State.param, State.timeS]

@[simp] theorem State.dropCap_frame (i : SlotIx) (s : State) :
    (s.dropCap i).now = s.now ∧ (s.dropCap i).port = s.port ∧ (s.dropCap i).ntu = s.ntu ∧
    (s.dropCap i).store = s.store ∧ (s.dropCap i).stations = s.stations ∧ (s.dropCap i).link = s.link ∧
    (s.dropCap i).bus = s.bus ∧ (s.dropCap i).blu = s.blu ∧ (s.dropCap i).gsq = s.gsq ∧
    (s.dropCap i).shu = s.shu ∧ (s.dropCap i).rsq = s.rsq ∧ (s.dropCap i).scu = s.scu ∧
    (s.dropCap i).lines = s.lines ∧ (s.dropCap i).params = s.params ∧ (s.dropCap i).mail = s.mail ∧
    (s.dropCap i).freeCount = s.freeCount ∧ (s.dropCap i).pending = s.pending ∧
    (∀ p0, (s.dropCap i).param p0 = s.param p0) ∧ (∀ i0, (s.dropCap i).gen i0 = s.gen i0) ∧
    (s.dropCap i).timeS = s.timeS ∧
    (∀ i0 : SlotIx, (s.dropCap i).slots[i0.val].gen = s.slots[i0.val].gen) := by
  simp [State.dropCap, State.gen, State.param, State.timeS]

@[simp] theorem State.dropCaps_frame (s : State) :
    s.dropCaps.now = s.now ∧ s.dropCaps.port = s.port ∧ s.dropCaps.ntu = s.ntu ∧
    s.dropCaps.store = s.store ∧ s.dropCaps.stations = s.stations ∧ s.dropCaps.link = s.link ∧
    s.dropCaps.bus = s.bus ∧ s.dropCaps.blu = s.blu ∧ s.dropCaps.gsq = s.gsq ∧ s.dropCaps.shu = s.shu ∧
    s.dropCaps.rsq = s.rsq ∧ s.dropCaps.scu = s.scu ∧ s.dropCaps.lines = s.lines ∧
    s.dropCaps.params = s.params ∧ s.dropCaps.mail = s.mail ∧ s.dropCaps.freeCount = s.freeCount ∧
    s.dropCaps.pending = s.pending ∧ (∀ p0, s.dropCaps.param p0 = s.param p0) ∧
    (∀ i0, s.dropCaps.gen i0 = s.gen i0) ∧ s.dropCaps.timeS = s.timeS ∧
    (∀ i0 : SlotIx, s.dropCaps.slots[i0.val].gen = s.slots[i0.val].gen) := by
  simp [State.dropCaps, State.gen, State.param, State.timeS]

@[simp] theorem State.leaveGrid_frame (old : GridState) (s : State) :
    (s.leaveGrid old).now = s.now ∧ (s.leaveGrid old).port = s.port ∧ (s.leaveGrid old).ntu = s.ntu ∧
    (s.leaveGrid old).store = s.store ∧ (s.leaveGrid old).stations = s.stations ∧
    (s.leaveGrid old).link = s.link ∧ (s.leaveGrid old).bus = s.bus ∧ (s.leaveGrid old).gsq = s.gsq ∧
    (s.leaveGrid old).shu = s.shu ∧ (s.leaveGrid old).rsq = s.rsq ∧ (s.leaveGrid old).lines = s.lines ∧
    (s.leaveGrid old).params = s.params ∧ (s.leaveGrid old).mail = s.mail ∧
    (s.leaveGrid old).freeCount = s.freeCount ∧ (s.leaveGrid old).pending = s.pending ∧
    (∀ p0, (s.leaveGrid old).param p0 = s.param p0) ∧ (∀ i0, (s.leaveGrid old).gen i0 = s.gen i0) ∧
    (s.leaveGrid old).timeS = s.timeS ∧
    (∀ i0 : SlotIx, (s.leaveGrid old).slots[i0.val].gen = s.slots[i0.val].gen) := by
  unfold State.leaveGrid
  split <;> simp [State.gen, State.param, State.timeS]

@[simp] theorem State.changeGrid_frame (new : GridState) (s : State) :
    (s.changeGrid new).now = s.now ∧ (s.changeGrid new).port = s.port ∧
    (s.changeGrid new).ntu = s.ntu ∧ (s.changeGrid new).store = s.store ∧
    (s.changeGrid new).stations = s.stations ∧ (s.changeGrid new).link = s.link ∧
    (s.changeGrid new).bus = s.bus ∧ (s.changeGrid new).gsq = s.gsq ∧ (s.changeGrid new).shu = s.shu ∧
    (s.changeGrid new).rsq = s.rsq ∧ (s.changeGrid new).lines = s.lines ∧
    (s.changeGrid new).params = s.params ∧ (s.changeGrid new).freeCount = s.freeCount ∧
    (s.changeGrid new).pending = s.pending ∧ (∀ p0, (s.changeGrid new).param p0 = s.param p0) ∧
    (∀ i0, (s.changeGrid new).gen i0 = s.gen i0) ∧ (s.changeGrid new).timeS = s.timeS ∧
    (∀ i0 : SlotIx, (s.changeGrid new).slots[i0.val].gen = s.slots[i0.val].gen) := by
  simp [State.changeGrid, State.gen, State.param, State.timeS]

@[simp] theorem State.handDemands_frame (s : State) :
    s.handDemands.now = s.now ∧ s.handDemands.port = s.port ∧ s.handDemands.store = s.store ∧
    s.handDemands.slots = s.slots ∧ s.handDemands.stations = s.stations ∧ s.handDemands.link = s.link ∧
    s.handDemands.bus = s.bus ∧ s.handDemands.gsq = s.gsq ∧ s.handDemands.shu = s.shu ∧
    s.handDemands.rsq = s.rsq ∧ s.handDemands.scu = s.scu ∧ s.handDemands.lines = s.lines ∧
    s.handDemands.params = s.params ∧ s.handDemands.freeCount = s.freeCount ∧
    s.handDemands.pending = s.pending ∧ (∀ p0, s.handDemands.param p0 = s.param p0) ∧
    (∀ i0, s.handDemands.gen i0 = s.gen i0) ∧ s.handDemands.timeS = s.timeS ∧
    (∀ i0 : SlotIx, s.handDemands.slots[i0.val].gen = s.slots[i0.val].gen) := by
  simp [State.handDemands, State.gen, State.param, State.timeS]

@[simp] theorem State.moveGrid_frame (new : GridState) (s : State) :
    (s.moveGrid new).now = s.now ∧ (s.moveGrid new).port = s.port ∧ (s.moveGrid new).store = s.store ∧
    (s.moveGrid new).stations = s.stations ∧ (s.moveGrid new).link = s.link ∧
    (s.moveGrid new).bus = s.bus ∧ (s.moveGrid new).gsq = s.gsq ∧ (s.moveGrid new).shu = s.shu ∧
    (s.moveGrid new).rsq = s.rsq ∧ (s.moveGrid new).lines = s.lines ∧
    (s.moveGrid new).params = s.params ∧ (s.moveGrid new).freeCount = s.freeCount ∧
    (s.moveGrid new).pending = s.pending ∧ (∀ p0, (s.moveGrid new).param p0 = s.param p0) ∧
    (∀ i0, (s.moveGrid new).gen i0 = s.gen i0) ∧ (s.moveGrid new).timeS = s.timeS ∧
    (∀ i0 : SlotIx, (s.moveGrid new).slots[i0.val].gen = s.slots[i0.val].gen) := by
  simp [State.moveGrid, State.gen, State.param, State.timeS]

@[simp] theorem State.stepGrid_frame (r : Results) (s : State) :
    (s.stepGrid r).now = s.now ∧ (s.stepGrid r).port = s.port ∧ (s.stepGrid r).ntu = s.ntu ∧
    (s.stepGrid r).store = s.store ∧ (s.stepGrid r).stations = s.stations ∧
    (s.stepGrid r).link = s.link ∧ (s.stepGrid r).bus = s.bus ∧ (s.stepGrid r).gsq = s.gsq ∧
    (s.stepGrid r).shu = s.shu ∧ (s.stepGrid r).rsq = s.rsq ∧ (s.stepGrid r).lines = s.lines ∧
    (s.stepGrid r).params = s.params ∧ (s.stepGrid r).freeCount = s.freeCount ∧
    (s.stepGrid r).pending = s.pending ∧ (∀ p0, (s.stepGrid r).param p0 = s.param p0) ∧
    (∀ i0, (s.stepGrid r).gen i0 = s.gen i0) ∧ (s.stepGrid r).timeS = s.timeS ∧
    (∀ i0 : SlotIx, (s.stepGrid r).slots[i0.val].gen = s.slots[i0.val].gen) := by
  and_intros <;> (try intro q) <;> first
    | rfl
    | (simp [State.stepGrid, State.gen, State.param, State.timeS]; done)
    | (unfold State.stepGrid; dsimp only; repeat' (first | rfl | (simp [State.gen, State.param, State.timeS]; done) | split))

@[simp] theorem State.markRuns_frame (s : State) :
    s.markRuns.now = s.now ∧ s.markRuns.port = s.port ∧ s.markRuns.ntu = s.ntu ∧
    s.markRuns.store = s.store ∧ s.markRuns.slots = s.slots ∧ s.markRuns.stations = s.stations ∧
    s.markRuns.link = s.link ∧ s.markRuns.bus = s.bus ∧ s.markRuns.gsq = s.gsq ∧
    s.markRuns.shu = s.shu ∧ s.markRuns.rsq = s.rsq ∧ s.markRuns.scu = s.scu ∧
    s.markRuns.lines = s.lines ∧ s.markRuns.params = s.params ∧ s.markRuns.mail = s.mail ∧
    s.markRuns.freeCount = s.freeCount ∧ s.markRuns.pending = s.pending ∧
    (∀ p0, s.markRuns.param p0 = s.param p0) ∧ (∀ i0, s.markRuns.gen i0 = s.gen i0) ∧
    s.markRuns.timeS = s.timeS ∧ (∀ i0 : SlotIx, s.markRuns.slots[i0.val].gen = s.slots[i0.val].gen) := by
  simp [State.markRuns, State.gen, State.param, State.timeS]

@[simp] theorem State.stopTest_frame (r : Results) (s : State) :
    (s.stopTest r).now = s.now ∧ (s.stopTest r).port = s.port ∧ (s.stopTest r).ntu = s.ntu ∧
    (s.stopTest r).store = s.store ∧ (s.stopTest r).slots = s.slots ∧
    (s.stopTest r).stations = s.stations ∧ (s.stopTest r).link = s.link ∧ (s.stopTest r).bus = s.bus ∧
    (s.stopTest r).gsq = s.gsq ∧ (s.stopTest r).shu = s.shu ∧ (s.stopTest r).rsq = s.rsq ∧
    (s.stopTest r).lines = s.lines ∧ (s.stopTest r).params = s.params ∧ (s.stopTest r).mail = s.mail ∧
    (s.stopTest r).freeCount = s.freeCount ∧ (s.stopTest r).pending = s.pending := by
  unfold State.stopTest
  split <;> simp

@[simp] theorem State.storeResults_frame (r : Results) (s : State) :
    (s.storeResults r).now = s.now ∧ (s.storeResults r).port = s.port ∧
    (s.storeResults r).ntu = s.ntu ∧ (s.storeResults r).store = s.store ∧
    (s.storeResults r).slots = s.slots ∧ (s.storeResults r).stations = s.stations ∧
    (s.storeResults r).link = s.link ∧ (s.storeResults r).bus = s.bus ∧
    (s.storeResults r).gsq = s.gsq ∧ (s.storeResults r).shu = s.shu ∧ (s.storeResults r).rsq = s.rsq ∧
    (s.storeResults r).scu = s.scu ∧ (s.storeResults r).lines = s.lines ∧
    (s.storeResults r).params = s.params ∧ (s.storeResults r).mail = s.mail ∧
    (s.storeResults r).freeCount = s.freeCount ∧ (s.storeResults r).pending = s.pending ∧
    (∀ p0, (s.storeResults r).param p0 = s.param p0) ∧ (∀ i0, (s.storeResults r).gen i0 = s.gen i0) ∧
    (s.storeResults r).timeS = s.timeS ∧
    (∀ i0 : SlotIx, (s.storeResults r).slots[i0.val].gen = s.slots[i0.val].gen) := by
  simp [State.storeResults, State.gen, State.param, State.timeS]

@[simp] theorem State.handResults_frame (r : Results) (queued : List SlotIx) (s : State) :
    (s.handResults r queued).now = s.now ∧ (s.handResults r queued).port = s.port ∧
    (s.handResults r queued).ntu = s.ntu ∧ (s.handResults r queued).store = s.store ∧
    (s.handResults r queued).slots = s.slots ∧ (s.handResults r queued).stations = s.stations ∧
    (s.handResults r queued).link = s.link ∧ (s.handResults r queued).bus = s.bus ∧
    (s.handResults r queued).blu = s.blu ∧ (s.handResults r queued).gsq = s.gsq ∧
    (s.handResults r queued).shu = s.shu ∧ (s.handResults r queued).rsq = s.rsq ∧
    (s.handResults r queued).scu = s.scu ∧ (s.handResults r queued).lines = s.lines ∧
    (s.handResults r queued).params = s.params ∧ (s.handResults r queued).freeCount = s.freeCount ∧
    (s.handResults r queued).pending = s.pending ∧
    (∀ p0, (s.handResults r queued).param p0 = s.param p0) ∧
    (∀ i0, (s.handResults r queued).gen i0 = s.gen i0) ∧ (s.handResults r queued).timeS = s.timeS ∧
    (∀ i0 : SlotIx, (s.handResults r queued).slots[i0.val].gen = s.slots[i0.val].gen) := by
  simp [State.handResults, State.gen, State.param, State.timeS]

@[simp] theorem State.evaluate_frame (s : State) :
    s.evaluate.now = s.now ∧ s.evaluate.port = s.port ∧ s.evaluate.store = s.store ∧
    s.evaluate.bus = s.bus ∧ s.evaluate.gsq = s.gsq ∧ s.evaluate.shu = s.shu ∧ s.evaluate.rsq = s.rsq ∧
    s.evaluate.lines = s.lines ∧ s.evaluate.params = s.params ∧ s.evaluate.freeCount = s.freeCount ∧
    s.evaluate.pending = s.pending ∧ (∀ p0, s.evaluate.param p0 = s.param p0) ∧
    s.evaluate.timeS = s.timeS := by
  simp [State.evaluate, State.param, State.timeS]

@[simp] theorem State.darkPv_frame (i : SlotIx) (s : State) :
    (s.darkPv i).now = s.now ∧ (s.darkPv i).port = s.port ∧ (s.darkPv i).ntu = s.ntu ∧
    (s.darkPv i).store = s.store ∧ (s.darkPv i).bus = s.bus ∧ (s.darkPv i).blu = s.blu ∧
    (s.darkPv i).gsq = s.gsq ∧ (s.darkPv i).shu = s.shu ∧ (s.darkPv i).rsq = s.rsq ∧
    (s.darkPv i).scu = s.scu ∧ (s.darkPv i).lines = s.lines ∧ (s.darkPv i).params = s.params ∧
    (s.darkPv i).mail = s.mail ∧ (s.darkPv i).freeCount = s.freeCount ∧
    (s.darkPv i).pending = s.pending ∧ (∀ p0, (s.darkPv i).param p0 = s.param p0) ∧
    (∀ i0, (s.darkPv i).gen i0 = s.gen i0) ∧ (s.darkPv i).timeS = s.timeS ∧
    (∀ i0 : SlotIx, (s.darkPv i).slots[i0.val].gen = s.slots[i0.val].gen) := by
  and_intros <;> (try intro q) <;> first
    | rfl
    | (simp [State.darkPv, State.gen, State.param, State.timeS]; done)
    | (unfold State.darkPv; dsimp only; repeat' (first | rfl | (simp [State.gen]; done) | split))

@[simp] theorem State.enterDark_frame (s : State) :
    s.enterDark.now = s.now ∧ s.enterDark.port = s.port ∧ s.enterDark.store = s.store ∧
    s.enterDark.bus = s.bus ∧ s.enterDark.gsq = s.gsq ∧ s.enterDark.shu = s.shu ∧
    s.enterDark.rsq = s.rsq ∧ s.enterDark.lines = s.lines ∧ s.enterDark.params = s.params ∧
    s.enterDark.freeCount = s.freeCount ∧ s.enterDark.pending = s.pending ∧
    (∀ p0, s.enterDark.param p0 = s.param p0) ∧ (∀ i0, s.enterDark.gen i0 = s.gen i0) ∧
    s.enterDark.timeS = s.timeS ∧ (∀ i0 : SlotIx, s.enterDark.slots[i0.val].gen = s.slots[i0.val].gen) := by
  simp [State.enterDark, State.gen, State.param, State.timeS]

@[simp] theorem State.evaluateIfWorking_frame (s : State) :
    s.evaluateIfWorking.now = s.now ∧ s.evaluateIfWorking.port = s.port ∧
    s.evaluateIfWorking.store = s.store ∧ s.evaluateIfWorking.bus = s.bus ∧
    s.evaluateIfWorking.gsq = s.gsq ∧ s.evaluateIfWorking.shu = s.shu ∧
    s.evaluateIfWorking.rsq = s.rsq ∧ s.evaluateIfWorking.lines = s.lines ∧
    s.evaluateIfWorking.params = s.params ∧ s.evaluateIfWorking.freeCount = s.freeCount ∧
    s.evaluateIfWorking.pending = s.pending ∧ (∀ p0, s.evaluateIfWorking.param p0 = s.param p0) ∧
    s.evaluateIfWorking.timeS = s.timeS := by
  simp [State.evaluateIfWorking, State.param, State.timeS]

@[simp] theorem State.toNormal_frame (s : State) :
    s.toNormal.now = s.now ∧ s.toNormal.port = s.port ∧ s.toNormal.store = s.store ∧
    s.toNormal.bus = s.bus ∧ s.toNormal.gsq = s.gsq ∧ s.toNormal.shu = s.shu ∧ s.toNormal.rsq = s.rsq ∧
    s.toNormal.lines = s.lines ∧ s.toNormal.params = s.params ∧ s.toNormal.freeCount = s.freeCount ∧
    s.toNormal.pending = s.pending ∧ (∀ p0, s.toNormal.param p0 = s.param p0) ∧
    s.toNormal.timeS = s.timeS := by
  simp [State.toNormal, State.param, State.timeS]

@[simp] theorem State.takeReevaluation_frame (s : State) :
    s.takeReevaluation.now = s.now ∧ s.takeReevaluation.port = s.port ∧
    s.takeReevaluation.store = s.store ∧ s.takeReevaluation.bus = s.bus ∧
    s.takeReevaluation.gsq = s.gsq ∧ s.takeReevaluation.shu = s.shu ∧ s.takeReevaluation.rsq = s.rsq ∧
    s.takeReevaluation.lines = s.lines ∧ s.takeReevaluation.params = s.params ∧
    s.takeReevaluation.freeCount = s.freeCount ∧ s.takeReevaluation.pending = s.pending ∧
    (∀ p0, s.takeReevaluation.param p0 = s.param p0) ∧ s.takeReevaluation.timeS = s.timeS := by
  simp [State.takeReevaluation, State.param, State.timeS]

@[simp] theorem State.stopDelayExpired_frame (s : State) :
    s.stopDelayExpired.now = s.now ∧ s.stopDelayExpired.port = s.port ∧
    s.stopDelayExpired.store = s.store ∧ s.stopDelayExpired.bus = s.bus ∧
    s.stopDelayExpired.rsq = s.rsq ∧ s.stopDelayExpired.params = s.params ∧
    s.stopDelayExpired.freeCount = s.freeCount ∧ s.stopDelayExpired.pending = s.pending ∧
    (∀ p0, s.stopDelayExpired.param p0 = s.param p0) ∧ s.stopDelayExpired.timeS = s.timeS := by
  unfold State.stopDelayExpired
  split <;> simp [State.param, State.timeS]

@[simp] theorem State.bluStage_frame (s : State) :
    s.bluStage.now = s.now ∧ s.bluStage.port = s.port ∧ s.bluStage.store = s.store ∧
    s.bluStage.stations = s.stations ∧ s.bluStage.link = s.link ∧ s.bluStage.bus = s.bus ∧
    s.bluStage.gsq = s.gsq ∧ s.bluStage.shu = s.shu ∧ s.bluStage.rsq = s.rsq ∧
    s.bluStage.lines = s.lines ∧ s.bluStage.params = s.params ∧ s.bluStage.freeCount = s.freeCount ∧
    s.bluStage.pending = s.pending ∧ (∀ p0, s.bluStage.param p0 = s.param p0) ∧
    (∀ i0, s.bluStage.gen i0 = s.gen i0) ∧ s.bluStage.timeS = s.timeS ∧
    (∀ i0 : SlotIx, s.bluStage.slots[i0.val].gen = s.slots[i0.val].gen) := by
  unfold State.bluStage
  split <;> simp [State.gen, State.param, State.timeS]

@[simp] theorem State.bluDark_frame (s : State) :
    s.bluDark.now = s.now ∧ s.bluDark.port = s.port ∧ s.bluDark.store = s.store ∧
    s.bluDark.bus = s.bus ∧ s.bluDark.gsq = s.gsq ∧ s.bluDark.shu = s.shu ∧ s.bluDark.rsq = s.rsq ∧
    s.bluDark.lines = s.lines ∧ s.bluDark.params = s.params ∧ s.bluDark.freeCount = s.freeCount ∧
    s.bluDark.pending = s.pending ∧ (∀ p0, s.bluDark.param p0 = s.param p0) ∧
    (∀ i0, s.bluDark.gen i0 = s.gen i0) ∧ s.bluDark.timeS = s.timeS ∧
    (∀ i0 : SlotIx, s.bluDark.slots[i0.val].gen = s.slots[i0.val].gen) := by
  unfold State.bluDark
  split <;> simp [State.gen, State.param, State.timeS]

@[simp] theorem State.bluLive_frame (s : State) :
    s.bluLive.now = s.now ∧ s.bluLive.port = s.port ∧ s.bluLive.store = s.store ∧
    s.bluLive.bus = s.bus ∧ s.bluLive.gsq = s.gsq ∧ s.bluLive.shu = s.shu ∧ s.bluLive.rsq = s.rsq ∧
    s.bluLive.lines = s.lines ∧ s.bluLive.params = s.params ∧ s.bluLive.freeCount = s.freeCount ∧
    s.bluLive.pending = s.pending ∧ (∀ p0, s.bluLive.param p0 = s.param p0) ∧ s.bluLive.timeS = s.timeS := by
  unfold State.bluLive
  split <;> simp [State.param, State.timeS]

@[simp] theorem State.bluPlanStart_frame (s : State) :
    s.bluPlanStart.now = s.now ∧ s.bluPlanStart.port = s.port ∧ s.bluPlanStart.store = s.store ∧
    s.bluPlanStart.stations = s.stations ∧ s.bluPlanStart.link = s.link ∧ s.bluPlanStart.bus = s.bus ∧
    s.bluPlanStart.gsq = s.gsq ∧ s.bluPlanStart.shu = s.shu ∧ s.bluPlanStart.rsq = s.rsq ∧
    s.bluPlanStart.lines = s.lines ∧ s.bluPlanStart.params = s.params ∧
    s.bluPlanStart.freeCount = s.freeCount ∧ s.bluPlanStart.pending = s.pending ∧
    (∀ p0, s.bluPlanStart.param p0 = s.param p0) ∧ (∀ i0, s.bluPlanStart.gen i0 = s.gen i0) ∧
    s.bluPlanStart.timeS = s.timeS ∧
    (∀ i0 : SlotIx, s.bluPlanStart.slots[i0.val].gen = s.slots[i0.val].gen) := by
  unfold State.bluPlanStart
  split <;> simp [State.gen, State.param, State.timeS]

@[simp] theorem State.bluPlanEnd_frame (complete : Bool) (s : State) :
    (s.bluPlanEnd complete).now = s.now ∧ (s.bluPlanEnd complete).port = s.port ∧
    (s.bluPlanEnd complete).store = s.store ∧ (s.bluPlanEnd complete).bus = s.bus ∧
    (s.bluPlanEnd complete).gsq = s.gsq ∧ (s.bluPlanEnd complete).shu = s.shu ∧
    (s.bluPlanEnd complete).rsq = s.rsq ∧ (s.bluPlanEnd complete).lines = s.lines ∧
    (s.bluPlanEnd complete).params = s.params ∧ (s.bluPlanEnd complete).freeCount = s.freeCount ∧
    (s.bluPlanEnd complete).pending = s.pending ∧
    (∀ p0, (s.bluPlanEnd complete).param p0 = s.param p0) ∧ (s.bluPlanEnd complete).timeS = s.timeS := by
  simp [State.bluPlanEnd, State.param, State.timeS]

end Sys2Proof.Machine
end

