-- ==== Sys2Proof/Laws/FrameFeeder.lean ====
section
/-! SUPPORT. What the feeders (Machine/Feeder.lean) leave unchanged: for each operation, the fields of the state that it keeps, as
simp lemmas, so that no later proof unfolds it for a field it does not touch. -/

namespace Sys2Proof.Machine

@[simp] theorem State.handFeeder_frame (i : SlotIx) (st : FeederState) (s : State) :
    (s.handFeeder i st).now = s.now ∧ (s.handFeeder i st).port = s.port ∧
    (s.handFeeder i st).ntu = s.ntu ∧ (s.handFeeder i st).store = s.store ∧
    (s.handFeeder i st).slots = s.slots ∧ (s.handFeeder i st).stations = s.stations ∧
    (s.handFeeder i st).link = s.link ∧ (s.handFeeder i st).bus = s.bus ∧
    (s.handFeeder i st).blu = s.blu ∧ (s.handFeeder i st).gsq = s.gsq ∧
    (s.handFeeder i st).shu = s.shu ∧ (s.handFeeder i st).rsq = s.rsq ∧
    (s.handFeeder i st).scu = s.scu ∧ (s.handFeeder i st).lines = s.lines ∧
    (s.handFeeder i st).params = s.params ∧ (s.handFeeder i st).freeCount = s.freeCount ∧
    (s.handFeeder i st).pending = s.pending ∧ (∀ p0, (s.handFeeder i st).param p0 = s.param p0) ∧
    (∀ i0, (s.handFeeder i st).gen i0 = s.gen i0) ∧ (s.handFeeder i st).timeS = s.timeS ∧
    (∀ i0 : SlotIx, (s.handFeeder i st).slots[i0.val].gen = s.slots[i0.val].gen) := by
  unfold State.handFeeder
  split <;> simp [State.gen, State.param, State.timeS]

@[simp] theorem State.feederEnter_frame (i : SlotIx) (st : FeederState) (cause : Option TripCause) (s :
    State) :
    (s.feederEnter i st cause).now = s.now ∧ (s.feederEnter i st cause).port = s.port ∧
    (s.feederEnter i st cause).ntu = s.ntu ∧ (s.feederEnter i st cause).store = s.store ∧
    (s.feederEnter i st cause).stations = s.stations ∧ (s.feederEnter i st cause).link = s.link ∧
    (s.feederEnter i st cause).bus = s.bus ∧ (s.feederEnter i st cause).blu = s.blu ∧
    (s.feederEnter i st cause).gsq = s.gsq ∧ (s.feederEnter i st cause).shu = s.shu ∧
    (s.feederEnter i st cause).rsq = s.rsq ∧ (s.feederEnter i st cause).scu = s.scu ∧
    (s.feederEnter i st cause).lines = s.lines ∧ (s.feederEnter i st cause).params = s.params ∧
    (s.feederEnter i st cause).freeCount = s.freeCount ∧
    (s.feederEnter i st cause).pending = s.pending ∧
    (∀ p0, (s.feederEnter i st cause).param p0 = s.param p0) ∧
    (∀ i0, (s.feederEnter i st cause).gen i0 = s.gen i0) ∧ (s.feederEnter i st cause).timeS = s.timeS ∧
    (∀ i0 : SlotIx, (s.feederEnter i st cause).slots[i0.val].gen = s.slots[i0.val].gen) := by
  simp [State.feederEnter, State.gen, State.param, State.timeS]

@[simp] theorem State.setPendingCause_frame (i : SlotIx) (c : Option TripCause) (s : State) :
    (s.setPendingCause i c).now = s.now ∧ (s.setPendingCause i c).port = s.port ∧
    (s.setPendingCause i c).ntu = s.ntu ∧ (s.setPendingCause i c).store = s.store ∧
    (s.setPendingCause i c).stations = s.stations ∧ (s.setPendingCause i c).link = s.link ∧
    (s.setPendingCause i c).bus = s.bus ∧ (s.setPendingCause i c).blu = s.blu ∧
    (s.setPendingCause i c).gsq = s.gsq ∧ (s.setPendingCause i c).shu = s.shu ∧
    (s.setPendingCause i c).rsq = s.rsq ∧ (s.setPendingCause i c).scu = s.scu ∧
    (s.setPendingCause i c).lines = s.lines ∧ (s.setPendingCause i c).params = s.params ∧
    (s.setPendingCause i c).mail = s.mail ∧ (s.setPendingCause i c).freeCount = s.freeCount ∧
    (s.setPendingCause i c).pending = s.pending ∧
    (∀ p0, (s.setPendingCause i c).param p0 = s.param p0) ∧
    (∀ i0, (s.setPendingCause i c).gen i0 = s.gen i0) ∧ (s.setPendingCause i c).timeS = s.timeS ∧
    (∀ i0 : SlotIx, (s.setPendingCause i c).slots[i0.val].gen = s.slots[i0.val].gen) := by
  simp [State.setPendingCause, State.gen, State.param, State.timeS]

@[simp] theorem State.openingDone_frame (i : SlotIx) (s : State) :
    (s.openingDone i).now = s.now ∧ (s.openingDone i).port = s.port ∧ (s.openingDone i).ntu = s.ntu ∧
    (s.openingDone i).store = s.store ∧ (s.openingDone i).stations = s.stations ∧
    (s.openingDone i).link = s.link ∧ (s.openingDone i).bus = s.bus ∧ (s.openingDone i).blu = s.blu ∧
    (s.openingDone i).gsq = s.gsq ∧ (s.openingDone i).shu = s.shu ∧ (s.openingDone i).rsq = s.rsq ∧
    (s.openingDone i).lines = s.lines ∧ (s.openingDone i).params = s.params ∧
    (s.openingDone i).freeCount = s.freeCount ∧ (s.openingDone i).pending = s.pending ∧
    (∀ p0, (s.openingDone i).param p0 = s.param p0) ∧ (∀ i0, (s.openingDone i).gen i0 = s.gen i0) ∧
    (s.openingDone i).timeS = s.timeS ∧
    (∀ i0 : SlotIx, (s.openingDone i).slots[i0.val].gen = s.slots[i0.val].gen) := by
  unfold State.openingDone
  split <;> simp [State.gen, State.param, State.timeS]

@[simp] theorem State.confirmTrip_frame (i : SlotIx) (f : Feeder) (s : State) :
    (s.confirmTrip i f).now = s.now ∧ (s.confirmTrip i f).port = s.port ∧
    (s.confirmTrip i f).ntu = s.ntu ∧ (s.confirmTrip i f).store = s.store ∧
    (s.confirmTrip i f).stations = s.stations ∧ (s.confirmTrip i f).link = s.link ∧
    (s.confirmTrip i f).bus = s.bus ∧ (s.confirmTrip i f).blu = s.blu ∧
    (s.confirmTrip i f).gsq = s.gsq ∧ (s.confirmTrip i f).shu = s.shu ∧
    (s.confirmTrip i f).rsq = s.rsq ∧ (s.confirmTrip i f).lines = s.lines ∧
    (s.confirmTrip i f).params = s.params ∧ (s.confirmTrip i f).freeCount = s.freeCount ∧
    (s.confirmTrip i f).pending = s.pending ∧ (∀ p0, (s.confirmTrip i f).param p0 = s.param p0) ∧
    (∀ i0, (s.confirmTrip i f).gen i0 = s.gen i0) ∧ (s.confirmTrip i f).timeS = s.timeS ∧
    (∀ i0 : SlotIx, (s.confirmTrip i f).slots[i0.val].gen = s.slots[i0.val].gen) := by
  unfold State.confirmTrip
  (repeat' split) <;> simp [State.gen, State.param, State.timeS]

@[simp] theorem State.tripPulse_frame (i : SlotIx) (c : TripCause) (s : State) :
    (s.tripPulse i c).now = s.now ∧ (s.tripPulse i c).port = s.port ∧
    (s.tripPulse i c).store = s.store ∧ (s.tripPulse i c).stations = s.stations ∧
    (s.tripPulse i c).link = s.link ∧ (s.tripPulse i c).bus = s.bus ∧ (s.tripPulse i c).gsq = s.gsq ∧
    (s.tripPulse i c).rsq = s.rsq ∧ (s.tripPulse i c).params = s.params ∧
    (s.tripPulse i c).freeCount = s.freeCount ∧ (s.tripPulse i c).pending = s.pending ∧
    (∀ p0, (s.tripPulse i c).param p0 = s.param p0) ∧ (∀ i0, (s.tripPulse i c).gen i0 = s.gen i0) ∧
    (s.tripPulse i c).timeS = s.timeS ∧
    (∀ i0 : SlotIx, (s.tripPulse i c).slots[i0.val].gen = s.slots[i0.val].gen) := by
  unfold State.tripPulse
  split <;> simp [State.gen, State.param, State.timeS]

@[simp] theorem State.windowStarted_frame (i : SlotIx) (s : State) :
    (s.windowStarted i).now = s.now ∧ (s.windowStarted i).port = s.port ∧
    (s.windowStarted i).ntu = s.ntu ∧ (s.windowStarted i).store = s.store ∧
    (s.windowStarted i).stations = s.stations ∧ (s.windowStarted i).link = s.link ∧
    (s.windowStarted i).bus = s.bus ∧ (s.windowStarted i).blu = s.blu ∧
    (s.windowStarted i).gsq = s.gsq ∧ (s.windowStarted i).shu = s.shu ∧
    (s.windowStarted i).rsq = s.rsq ∧ (s.windowStarted i).params = s.params ∧
    (s.windowStarted i).freeCount = s.freeCount ∧ (s.windowStarted i).pending = s.pending ∧
    (∀ p0, (s.windowStarted i).param p0 = s.param p0) ∧ (∀ i0, (s.windowStarted i).gen i0 = s.gen i0) ∧
    (s.windowStarted i).timeS = s.timeS ∧
    (∀ i0 : SlotIx, (s.windowStarted i).slots[i0.val].gen = s.slots[i0.val].gen) := by
  and_intros <;> (try intro q) <;> first
    | rfl
    | (simp [State.windowStarted, State.gen, State.param, State.timeS]; done)
    | (unfold State.windowStarted; dsimp only; repeat' (first | rfl | (simp [State.gen, State.param, State.timeS]; done) | split))

theorem closeRequest_keeps {β : Type} (P : State → β) (h1 : ∀ c s, P (s.openWindow c) = P s)
    (h2 : ∀ i st cause s, P (s.feederEnter i st cause) = P s) (h3 : ∀ i s, P (s.windowStarted i) = P s)
    {i : SlotIx} {s t : State} (h : s.closeRequest i = some t) : P t = P s := by
  unfold State.closeRequest at h
  repeat' split at h
  all_goals simp at h
  rw [← h]
  split
  · rw [h3, h2, h1]
  · rw [h2, h1]
theorem closeRequest_getD {β : Type} (P : State → β) (h1 : ∀ c s, P (s.openWindow c) = P s)
    (h2 : ∀ i st cause s, P (s.feederEnter i st cause) = P s) (h3 : ∀ i s, P (s.windowStarted i) = P s)
    (i : SlotIx) (s : State) : P ((s.closeRequest i).getD s) = P s := by
  cases h : s.closeRequest i with
  | none => rfl
  | some t => exact closeRequest_keeps P h1 h2 h3 h
theorem planClose_keeps {β : Type} (P : State → β) (h1 : ∀ c s, P (s.openWindow c) = P s)
    (h2 : ∀ i st cause s, P (s.feederEnter i st cause) = P s) (h3 : ∀ i s, P (s.windowStarted i) = P s)
    {i : SlotIx} {s t : State} (h : s.planClose i = .begun t) : P t = P s := by
  unfold State.planClose at h
  repeat' split at h
  all_goals simp at h
  rename_i h'
  rw [← h]
  exact closeRequest_keeps P h1 h2 h3 h'

@[simp] theorem State.externalTrip_frame (i : SlotIx) (s : State) :
    (s.externalTrip i).now = s.now ∧ (s.externalTrip i).port = s.port ∧
    (s.externalTrip i).store = s.store ∧ (s.externalTrip i).stations = s.stations ∧
    (s.externalTrip i).link = s.link ∧ (s.externalTrip i).bus = s.bus ∧
    (s.externalTrip i).gsq = s.gsq ∧ (s.externalTrip i).rsq = s.rsq ∧ (s.externalTrip i).scu = s.scu ∧
    (s.externalTrip i).lines = s.lines ∧ (s.externalTrip i).params = s.params ∧
    (s.externalTrip i).freeCount = s.freeCount ∧ (s.externalTrip i).pending = s.pending ∧
    (∀ p0, (s.externalTrip i).param p0 = s.param p0) ∧ (∀ i0, (s.externalTrip i).gen i0 = s.gen i0) ∧
    (s.externalTrip i).timeS = s.timeS ∧
    (∀ i0 : SlotIx, (s.externalTrip i).slots[i0.val].gen = s.slots[i0.val].gen) := by
  simp [State.externalTrip, State.gen, State.param, State.timeS]

@[simp] theorem State.statusOpened_frame (i : SlotIx) (f : Feeder) (s : State) :
    (s.statusOpened i f).now = s.now ∧ (s.statusOpened i f).port = s.port ∧
    (s.statusOpened i f).store = s.store ∧ (s.statusOpened i f).stations = s.stations ∧
    (s.statusOpened i f).link = s.link ∧ (s.statusOpened i f).bus = s.bus ∧
    (s.statusOpened i f).gsq = s.gsq ∧ (s.statusOpened i f).rsq = s.rsq ∧
    (s.statusOpened i f).lines = s.lines ∧ (s.statusOpened i f).params = s.params ∧
    (s.statusOpened i f).freeCount = s.freeCount ∧ (s.statusOpened i f).pending = s.pending ∧
    (∀ p0, (s.statusOpened i f).param p0 = s.param p0) ∧
    (∀ i0, (s.statusOpened i f).gen i0 = s.gen i0) ∧ (s.statusOpened i f).timeS = s.timeS ∧
    (∀ i0 : SlotIx, (s.statusOpened i f).slots[i0.val].gen = s.slots[i0.val].gen) := by
  unfold State.statusOpened
  split <;> simp [State.gen, State.param, State.timeS]

@[simp] theorem State.statusClosed_frame (i : SlotIx) (f : Feeder) (s : State) :
    (s.statusClosed i f).now = s.now ∧ (s.statusClosed i f).port = s.port ∧
    (s.statusClosed i f).ntu = s.ntu ∧ (s.statusClosed i f).store = s.store ∧
    (s.statusClosed i f).stations = s.stations ∧ (s.statusClosed i f).link = s.link ∧
    (s.statusClosed i f).bus = s.bus ∧ (s.statusClosed i f).blu = s.blu ∧
    (s.statusClosed i f).gsq = s.gsq ∧ (s.statusClosed i f).shu = s.shu ∧
    (s.statusClosed i f).rsq = s.rsq ∧ (s.statusClosed i f).lines = s.lines ∧
    (s.statusClosed i f).params = s.params ∧ (s.statusClosed i f).freeCount = s.freeCount ∧
    (s.statusClosed i f).pending = s.pending ∧ (∀ p0, (s.statusClosed i f).param p0 = s.param p0) ∧
    (∀ i0, (s.statusClosed i f).gen i0 = s.gen i0) ∧ (s.statusClosed i f).timeS = s.timeS ∧
    (∀ i0 : SlotIx, (s.statusClosed i f).slots[i0.val].gen = s.slots[i0.val].gen) := by
  unfold State.statusClosed
  split <;> simp [State.gen, State.param, State.timeS]

@[simp] theorem State.shuStatus_frame (l : LineIx) (closed : Bool) (s : State) :
    (s.shuStatus l closed).now = s.now ∧ (s.shuStatus l closed).port = s.port ∧
    (s.shuStatus l closed).store = s.store ∧ (s.shuStatus l closed).stations = s.stations ∧
    (s.shuStatus l closed).link = s.link ∧ (s.shuStatus l closed).bus = s.bus ∧
    (s.shuStatus l closed).gsq = s.gsq ∧ (s.shuStatus l closed).rsq = s.rsq ∧
    (s.shuStatus l closed).lines = s.lines ∧ (s.shuStatus l closed).params = s.params ∧
    (s.shuStatus l closed).freeCount = s.freeCount ∧ (s.shuStatus l closed).pending = s.pending ∧
    (∀ p0, (s.shuStatus l closed).param p0 = s.param p0) ∧
    (∀ i0, (s.shuStatus l closed).gen i0 = s.gen i0) ∧ (s.shuStatus l closed).timeS = s.timeS ∧
    (∀ i0 : SlotIx, (s.shuStatus l closed).slots[i0.val].gen = s.slots[i0.val].gen) := by
  unfold State.shuStatus
  (repeat' split) <;> simp [State.gen, State.param, State.timeS]

@[simp] theorem State.rearm_frame (load : Nat) (k : StageIx) (s : State) :
    (s.rearm load k).now = s.now ∧ (s.rearm load k).port = s.port ∧ (s.rearm load k).store = s.store ∧
    (s.rearm load k).slots = s.slots ∧ (s.rearm load k).stations = s.stations ∧
    (s.rearm load k).link = s.link ∧ (s.rearm load k).bus = s.bus ∧ (s.rearm load k).blu = s.blu ∧
    (s.rearm load k).gsq = s.gsq ∧ (s.rearm load k).rsq = s.rsq ∧ (s.rearm load k).scu = s.scu ∧
    (s.rearm load k).lines = s.lines ∧ (s.rearm load k).params = s.params ∧
    (s.rearm load k).mail = s.mail ∧ (s.rearm load k).freeCount = s.freeCount ∧
    (s.rearm load k).pending = s.pending ∧ (∀ p0, (s.rearm load k).param p0 = s.param p0) ∧
    (∀ i0, (s.rearm load k).gen i0 = s.gen i0) ∧ (s.rearm load k).timeS = s.timeS ∧
    (∀ i0 : SlotIx, (s.rearm load k).slots[i0.val].gen = s.slots[i0.val].gen) := by
  simp [State.rearm, State.gen, State.param, State.timeS]

@[simp] theorem State.rearmAll_frame (load : Nat) (s : State) :
    (s.rearmAll load).now = s.now ∧ (s.rearmAll load).port = s.port ∧
    (s.rearmAll load).store = s.store ∧ (s.rearmAll load).slots = s.slots ∧
    (s.rearmAll load).stations = s.stations ∧ (s.rearmAll load).link = s.link ∧
    (s.rearmAll load).bus = s.bus ∧ (s.rearmAll load).blu = s.blu ∧ (s.rearmAll load).gsq = s.gsq ∧
    (s.rearmAll load).rsq = s.rsq ∧ (s.rearmAll load).scu = s.scu ∧ (s.rearmAll load).lines = s.lines ∧
    (s.rearmAll load).params = s.params ∧ (s.rearmAll load).mail = s.mail ∧
    (s.rearmAll load).freeCount = s.freeCount ∧ (s.rearmAll load).pending = s.pending ∧
    (∀ p0, (s.rearmAll load).param p0 = s.param p0) ∧ (∀ i0, (s.rearmAll load).gen i0 = s.gen i0) ∧
    (s.rearmAll load).timeS = s.timeS ∧
    (∀ i0 : SlotIx, (s.rearmAll load).slots[i0.val].gen = s.slots[i0.val].gen) := by
  simp [State.rearmAll, State.gen, State.param, State.timeS]

@[simp] theorem State.fireMember_frame (k : StageIx) (i : SlotIx) (s : State) :
    (s.fireMember k i).now = s.now ∧ (s.fireMember k i).port = s.port ∧
    (s.fireMember k i).store = s.store ∧ (s.fireMember k i).stations = s.stations ∧
    (s.fireMember k i).link = s.link ∧ (s.fireMember k i).bus = s.bus ∧
    (s.fireMember k i).gsq = s.gsq ∧ (s.fireMember k i).rsq = s.rsq ∧
    (s.fireMember k i).params = s.params ∧ (s.fireMember k i).freeCount = s.freeCount ∧
    (s.fireMember k i).pending = s.pending ∧ (∀ p0, (s.fireMember k i).param p0 = s.param p0) ∧
    (∀ i0, (s.fireMember k i).gen i0 = s.gen i0) ∧ (s.fireMember k i).timeS = s.timeS ∧
    (∀ i0 : SlotIx, (s.fireMember k i).slots[i0.val].gen = s.slots[i0.val].gen) := by
  unfold State.fireMember
  split <;> simp [State.gen, State.param, State.timeS]

@[simp] theorem State.fireStage_frame (k : StageIx) (s : State) :
    (s.fireStage k).now = s.now ∧ (s.fireStage k).port = s.port ∧ (s.fireStage k).store = s.store ∧
    (s.fireStage k).stations = s.stations ∧ (s.fireStage k).link = s.link ∧
    (s.fireStage k).bus = s.bus ∧ (s.fireStage k).gsq = s.gsq ∧ (s.fireStage k).rsq = s.rsq ∧
    (s.fireStage k).params = s.params ∧ (s.fireStage k).freeCount = s.freeCount ∧
    (s.fireStage k).pending = s.pending ∧ (∀ p0, (s.fireStage k).param p0 = s.param p0) ∧
    (∀ i0, (s.fireStage k).gen i0 = s.gen i0) ∧ (s.fireStage k).timeS = s.timeS ∧
    (∀ i0 : SlotIx, (s.fireStage k).slots[i0.val].gen = s.slots[i0.val].gen) := by
  unfold State.fireStage
  split <;> simp [State.gen, State.param, State.timeS]

@[simp] theorem State.joinBatch_frame (i : SlotIx) (s : State) :
    (s.joinBatch i).now = s.now ∧ (s.joinBatch i).port = s.port ∧ (s.joinBatch i).ntu = s.ntu ∧
    (s.joinBatch i).store = s.store ∧ (s.joinBatch i).stations = s.stations ∧
    (s.joinBatch i).link = s.link ∧ (s.joinBatch i).bus = s.bus ∧ (s.joinBatch i).blu = s.blu ∧
    (s.joinBatch i).gsq = s.gsq ∧ (s.joinBatch i).rsq = s.rsq ∧ (s.joinBatch i).scu = s.scu ∧
    (s.joinBatch i).lines = s.lines ∧ (s.joinBatch i).params = s.params ∧
    (s.joinBatch i).freeCount = s.freeCount ∧ (s.joinBatch i).pending = s.pending ∧
    (∀ p0, (s.joinBatch i).param p0 = s.param p0) ∧ (∀ i0, (s.joinBatch i).gen i0 = s.gen i0) ∧
    (s.joinBatch i).timeS = s.timeS ∧
    (∀ i0 : SlotIx, (s.joinBatch i).slots[i0.val].gen = s.slots[i0.val].gen) := by
  simp [State.joinBatch, State.gen, State.param, State.timeS]

@[simp] theorem State.shedReserve_frame (shed : Nat) (s : State) :
    (s.shedReserve shed).now = s.now ∧ (s.shedReserve shed).port = s.port ∧
    (s.shedReserve shed).store = s.store ∧ (s.shedReserve shed).stations = s.stations ∧
    (s.shedReserve shed).link = s.link ∧ (s.shedReserve shed).bus = s.bus ∧
    (s.shedReserve shed).blu = s.blu ∧ (s.shedReserve shed).gsq = s.gsq ∧
    (s.shedReserve shed).rsq = s.rsq ∧ (s.shedReserve shed).lines = s.lines ∧
    (s.shedReserve shed).params = s.params ∧ (s.shedReserve shed).freeCount = s.freeCount ∧
    (s.shedReserve shed).pending = s.pending ∧ (∀ p0, (s.shedReserve shed).param p0 = s.param p0) ∧
    (∀ i0, (s.shedReserve shed).gen i0 = s.gen i0) ∧ (s.shedReserve shed).timeS = s.timeS ∧
    (∀ i0 : SlotIx, (s.shedReserve shed).slots[i0.val].gen = s.slots[i0.val].gen) := by
  simp [State.shedReserve, State.gen, State.param, State.timeS]

@[simp] theorem State.returnToClosed_frame (i : SlotIx) (s : State) :
    (s.returnToClosed i).now = s.now ∧ (s.returnToClosed i).port = s.port ∧
    (s.returnToClosed i).ntu = s.ntu ∧ (s.returnToClosed i).store = s.store ∧
    (s.returnToClosed i).stations = s.stations ∧ (s.returnToClosed i).link = s.link ∧
    (s.returnToClosed i).bus = s.bus ∧ (s.returnToClosed i).gsq = s.gsq ∧
    (s.returnToClosed i).rsq = s.rsq ∧ (s.returnToClosed i).scu = s.scu ∧
    (s.returnToClosed i).lines = s.lines ∧ (s.returnToClosed i).params = s.params ∧
    (s.returnToClosed i).freeCount = s.freeCount ∧ (s.returnToClosed i).pending = s.pending ∧
    (∀ p0, (s.returnToClosed i).param p0 = s.param p0) ∧
    (∀ i0, (s.returnToClosed i).gen i0 = s.gen i0) ∧ (s.returnToClosed i).timeS = s.timeS ∧
    (∀ i0 : SlotIx, (s.returnToClosed i).slots[i0.val].gen = s.slots[i0.val].gen) := by
  and_intros <;> (try intro q) <;> first
    | rfl
    | (simp [State.returnToClosed, State.gen, State.param, State.timeS]; done)
    | (unfold State.returnToClosed; dsimp only; repeat' (first | rfl | (simp [State.gen]; done) | split))

@[simp] theorem State.stagger_frame (n : Nat) (s : State) :
    (s.stagger n).now = s.now ∧ (s.stagger n).port = s.port ∧ (s.stagger n).store = s.store ∧
    (s.stagger n).stations = s.stations ∧ (s.stagger n).link = s.link ∧ (s.stagger n).bus = s.bus ∧
    (s.stagger n).gsq = s.gsq ∧ (s.stagger n).rsq = s.rsq ∧ (s.stagger n).params = s.params ∧
    (s.stagger n).freeCount = s.freeCount ∧ (s.stagger n).pending = s.pending := by
  induction n generalizing s with
  | zero => simp [State.stagger]
  | succ n ih =>
    unfold State.stagger
    dsimp only
    and_intros <;> repeat' (first | rfl | (simp [ih]; done) | split)

@[simp] theorem State.recloseTest_frame (headroom : Int) (required : Nat) (s : State) :
    (s.recloseTest headroom required).now = s.now ∧ (s.recloseTest headroom required).port = s.port ∧
    (s.recloseTest headroom required).ntu = s.ntu ∧ (s.recloseTest headroom required).store = s.store ∧
    (s.recloseTest headroom required).slots = s.slots ∧
    (s.recloseTest headroom required).stations = s.stations ∧
    (s.recloseTest headroom required).link = s.link ∧ (s.recloseTest headroom required).bus = s.bus ∧
    (s.recloseTest headroom required).blu = s.blu ∧ (s.recloseTest headroom required).gsq = s.gsq ∧
    (s.recloseTest headroom required).rsq = s.rsq ∧ (s.recloseTest headroom required).lines = s.lines ∧
    (s.recloseTest headroom required).params = s.params ∧
    (s.recloseTest headroom required).mail = s.mail ∧
    (s.recloseTest headroom required).freeCount = s.freeCount ∧
    (s.recloseTest headroom required).pending = s.pending := by
  unfold State.recloseTest
  split <;> simp

@[simp] theorem State.recloseExpired_frame (s : State) :
    s.recloseExpired.now = s.now ∧ s.recloseExpired.port = s.port ∧ s.recloseExpired.ntu = s.ntu ∧
    s.recloseExpired.store = s.store ∧ s.recloseExpired.stations = s.stations ∧
    s.recloseExpired.link = s.link ∧ s.recloseExpired.bus = s.bus ∧ s.recloseExpired.blu = s.blu ∧
    s.recloseExpired.gsq = s.gsq ∧ s.recloseExpired.rsq = s.rsq ∧ s.recloseExpired.params = s.params ∧
    s.recloseExpired.freeCount = s.freeCount ∧ s.recloseExpired.pending = s.pending ∧
    s.recloseExpired.timeS = s.timeS := by
  and_intros
  · unfold State.recloseExpired
    dsimp only
    split
    · rfl
    · split
      · exact closeRequest_getD (fun s => s.now) (by intros; simp) (by intros; simp) (by intros; simp) _ _
      · rfl
  · unfold State.recloseExpired
    dsimp only
    split
    · rfl
    · split
      · exact closeRequest_getD (fun s => s.port) (by intros; simp) (by intros; simp) (by intros; simp) _ _
      · rfl
  · unfold State.recloseExpired
    dsimp only
    split
    · rfl
    · split
      · exact closeRequest_getD (fun s => s.ntu) (by intros; simp) (by intros; simp) (by intros; simp) _ _
      · rfl
  · unfold State.recloseExpired
    dsimp only
    split
    · rfl
    · split
      · exact closeRequest_getD (fun s => s.store) (by intros; simp) (by intros; simp) (by intros; simp) _ _
      · rfl
  · unfold State.recloseExpired
    dsimp only
    split
    · rfl
    · split
      · exact closeRequest_getD (fun s => s.stations) (by intros; simp) (by intros; simp) (by intros; simp) _ _
      · rfl
  · unfold State.recloseExpired
    dsimp only
    split
    · rfl
    · split
      · exact closeRequest_getD (fun s => s.link) (by intros; simp) (by intros; simp) (by intros; simp) _ _
      · rfl
  · unfold State.recloseExpired
    dsimp only
    split
    · rfl
    · split
      · exact closeRequest_getD (fun s => s.bus) (by intros; simp) (by intros; simp) (by intros; simp) _ _
      · rfl
  · unfold State.recloseExpired
    dsimp only
    split
    · rfl
    · split
      · exact closeRequest_getD (fun s => s.blu) (by intros; simp) (by intros; simp) (by intros; simp) _ _
      · rfl
  · unfold State.recloseExpired
    dsimp only
    split
    · rfl
    · split
      · exact closeRequest_getD (fun s => s.gsq) (by intros; simp) (by intros; simp) (by intros; simp) _ _
      · rfl
  · unfold State.recloseExpired
    dsimp only
    split
    · rfl
    · split
      · exact closeRequest_getD (fun s => s.rsq) (by intros; simp) (by intros; simp) (by intros; simp) _ _
      · rfl
  · unfold State.recloseExpired
    dsimp only
    split
    · rfl
    · split
      · exact closeRequest_getD (fun s => s.params) (by intros; simp) (by intros; simp) (by intros; simp) _ _
      · rfl
  · unfold State.recloseExpired
    dsimp only
    split
    · rfl
    · split
      · exact closeRequest_getD (fun s => s.freeCount) (by intros; simp) (by intros; simp) (by intros; simp) _ _
      · rfl
  · unfold State.recloseExpired
    dsimp only
    split
    · rfl
    · split
      · exact closeRequest_getD (fun s => s.pending) (by intros; simp) (by intros; simp) (by intros; simp) _ _
      · rfl
  · unfold State.recloseExpired
    dsimp only
    split
    · rfl
    · split
      · exact closeRequest_getD (fun s => s.timeS) (by intros; simp) (by intros; simp) (by intros; simp) _ _
      · rfl

@[simp] theorem State.shuEvaluation_frame (shed load : Nat) (headroom : Int) (required : Nat) (grid :
    GridState) (s : State) :
    (s.shuEvaluation shed load headroom required grid).now = s.now ∧
    (s.shuEvaluation shed load headroom required grid).port = s.port ∧
    (s.shuEvaluation shed load headroom required grid).store = s.store ∧
    (s.shuEvaluation shed load headroom required grid).stations = s.stations ∧
    (s.shuEvaluation shed load headroom required grid).link = s.link ∧
    (s.shuEvaluation shed load headroom required grid).bus = s.bus ∧
    (s.shuEvaluation shed load headroom required grid).blu = s.blu ∧
    (s.shuEvaluation shed load headroom required grid).gsq = s.gsq ∧
    (s.shuEvaluation shed load headroom required grid).rsq = s.rsq ∧
    (s.shuEvaluation shed load headroom required grid).lines = s.lines ∧
    (s.shuEvaluation shed load headroom required grid).params = s.params ∧
    (s.shuEvaluation shed load headroom required grid).freeCount = s.freeCount ∧
    (s.shuEvaluation shed load headroom required grid).pending = s.pending ∧
    (∀ p0, (s.shuEvaluation shed load headroom required grid).param p0 = s.param p0) ∧
    (s.shuEvaluation shed load headroom required grid).timeS = s.timeS := by
  simp [State.shuEvaluation, State.param, State.timeS]

@[simp] theorem State.darkTrip_frame (i : SlotIx) (s : State) :
    (s.darkTrip i).now = s.now ∧ (s.darkTrip i).port = s.port ∧ (s.darkTrip i).store = s.store ∧
    (s.darkTrip i).stations = s.stations ∧ (s.darkTrip i).link = s.link ∧ (s.darkTrip i).bus = s.bus ∧
    (s.darkTrip i).gsq = s.gsq ∧ (s.darkTrip i).rsq = s.rsq ∧ (s.darkTrip i).params = s.params ∧
    (s.darkTrip i).freeCount = s.freeCount ∧ (s.darkTrip i).pending = s.pending ∧
    (∀ p0, (s.darkTrip i).param p0 = s.param p0) ∧ (∀ i0, (s.darkTrip i).gen i0 = s.gen i0) ∧
    (s.darkTrip i).timeS = s.timeS ∧
    (∀ i0 : SlotIx, (s.darkTrip i).slots[i0.val].gen = s.slots[i0.val].gen) := by
  unfold State.darkTrip
  (repeat' split) <;> simp [State.gen, State.param, State.timeS]

@[simp] theorem State.shuDark_frame (s : State) :
    s.shuDark.now = s.now ∧ s.shuDark.port = s.port ∧ s.shuDark.store = s.store ∧
    s.shuDark.stations = s.stations ∧ s.shuDark.link = s.link ∧ s.shuDark.bus = s.bus ∧
    s.shuDark.gsq = s.gsq ∧ s.shuDark.rsq = s.rsq ∧ s.shuDark.params = s.params ∧
    s.shuDark.freeCount = s.freeCount ∧ s.shuDark.pending = s.pending ∧
    (∀ p0, s.shuDark.param p0 = s.param p0) ∧ (∀ i0, s.shuDark.gen i0 = s.gen i0) ∧
    s.shuDark.timeS = s.timeS ∧ (∀ i0 : SlotIx, s.shuDark.slots[i0.val].gen = s.slots[i0.val].gen) := by
  simp [State.shuDark, State.gen, State.param, State.timeS]

@[simp] theorem State.shuGrid_frame (old new : GridState) (s : State) :
    (s.shuGrid old new).now = s.now ∧ (s.shuGrid old new).port = s.port ∧
    (s.shuGrid old new).store = s.store ∧ (s.shuGrid old new).stations = s.stations ∧
    (s.shuGrid old new).link = s.link ∧ (s.shuGrid old new).bus = s.bus ∧
    (s.shuGrid old new).gsq = s.gsq ∧ (s.shuGrid old new).rsq = s.rsq ∧
    (s.shuGrid old new).params = s.params ∧ (s.shuGrid old new).freeCount = s.freeCount ∧
    (s.shuGrid old new).pending = s.pending ∧ (∀ p0, (s.shuGrid old new).param p0 = s.param p0) ∧
    (∀ i0, (s.shuGrid old new).gen i0 = s.gen i0) ∧ (s.shuGrid old new).timeS = s.timeS ∧
    (∀ i0 : SlotIx, (s.shuGrid old new).slots[i0.val].gen = s.slots[i0.val].gen) := by
  unfold State.shuGrid
  (repeat' split) <;> simp [State.gen, State.param, State.timeS]

@[simp] theorem State.staggerExpired_frame (s : State) :
    s.staggerExpired.now = s.now ∧ s.staggerExpired.port = s.port ∧ s.staggerExpired.store = s.store ∧
    s.staggerExpired.stations = s.stations ∧ s.staggerExpired.link = s.link ∧
    s.staggerExpired.bus = s.bus ∧ s.staggerExpired.gsq = s.gsq ∧ s.staggerExpired.rsq = s.rsq ∧
    s.staggerExpired.params = s.params ∧ s.staggerExpired.freeCount = s.freeCount ∧
    s.staggerExpired.pending = s.pending ∧ (∀ p0, s.staggerExpired.param p0 = s.param p0) ∧
    s.staggerExpired.timeS = s.timeS := by
  simp [State.staggerExpired, State.param, State.timeS]

@[simp] theorem State.confirmExpired_frame (i : SlotIx) (s : State) :
    (s.confirmExpired i).now = s.now ∧ (s.confirmExpired i).port = s.port ∧
    (s.confirmExpired i).store = s.store ∧ (s.confirmExpired i).stations = s.stations ∧
    (s.confirmExpired i).link = s.link ∧ (s.confirmExpired i).bus = s.bus ∧
    (s.confirmExpired i).blu = s.blu ∧ (s.confirmExpired i).gsq = s.gsq ∧
    (s.confirmExpired i).shu = s.shu ∧ (s.confirmExpired i).rsq = s.rsq ∧
    (s.confirmExpired i).scu = s.scu ∧ (s.confirmExpired i).lines = s.lines ∧
    (s.confirmExpired i).params = s.params ∧ (s.confirmExpired i).freeCount = s.freeCount ∧
    (s.confirmExpired i).pending = s.pending ∧ (∀ p0, (s.confirmExpired i).param p0 = s.param p0) ∧
    (∀ i0, (s.confirmExpired i).gen i0 = s.gen i0) ∧ (s.confirmExpired i).timeS = s.timeS ∧
    (∀ i0 : SlotIx, (s.confirmExpired i).slots[i0.val].gen = s.slots[i0.val].gen) := by
  unfold State.confirmExpired
  (repeat' split) <;> simp [State.gen, State.param, State.timeS]

@[simp] theorem State.pulseEnded_frame (i : SlotIx) (s : State) :
    (s.pulseEnded i).now = s.now ∧ (s.pulseEnded i).port = s.port ∧ (s.pulseEnded i).ntu = s.ntu ∧
    (s.pulseEnded i).store = s.store ∧ (s.pulseEnded i).stations = s.stations ∧
    (s.pulseEnded i).link = s.link ∧ (s.pulseEnded i).bus = s.bus ∧ (s.pulseEnded i).blu = s.blu ∧
    (s.pulseEnded i).gsq = s.gsq ∧ (s.pulseEnded i).shu = s.shu ∧ (s.pulseEnded i).rsq = s.rsq ∧
    (s.pulseEnded i).params = s.params ∧ (s.pulseEnded i).freeCount = s.freeCount ∧
    (s.pulseEnded i).pending = s.pending ∧ (∀ p0, (s.pulseEnded i).param p0 = s.param p0) ∧
    (∀ i0, (s.pulseEnded i).gen i0 = s.gen i0) ∧ (s.pulseEnded i).timeS = s.timeS ∧
    (∀ i0 : SlotIx, (s.pulseEnded i).slots[i0.val].gen = s.slots[i0.val].gen) := by
  unfold State.pulseEnded
  (repeat' split) <;> simp [State.gen, State.param, State.timeS]

@[simp] theorem State.windowEnded_frame (i : SlotIx) (s : State) :
    (s.windowEnded i).now = s.now ∧ (s.windowEnded i).port = s.port ∧ (s.windowEnded i).ntu = s.ntu ∧
    (s.windowEnded i).store = s.store ∧ (s.windowEnded i).stations = s.stations ∧
    (s.windowEnded i).link = s.link ∧ (s.windowEnded i).bus = s.bus ∧ (s.windowEnded i).blu = s.blu ∧
    (s.windowEnded i).gsq = s.gsq ∧ (s.windowEnded i).shu = s.shu ∧ (s.windowEnded i).rsq = s.rsq ∧
    (s.windowEnded i).scu = s.scu ∧ (s.windowEnded i).params = s.params ∧
    (s.windowEnded i).freeCount = s.freeCount ∧ (s.windowEnded i).pending = s.pending ∧
    (∀ p0, (s.windowEnded i).param p0 = s.param p0) ∧ (∀ i0, (s.windowEnded i).gen i0 = s.gen i0) ∧
    (s.windowEnded i).timeS = s.timeS ∧
    (∀ i0 : SlotIx, (s.windowEnded i).slots[i0.val].gen = s.slots[i0.val].gen) := by
  unfold State.windowEnded
  (repeat' split) <;> simp [State.gen, State.param, State.timeS]

@[simp] theorem State.tripPulseEnd_frame (i : SlotIx) (s : State) :
    (s.tripPulseEnd i).port = s.port ∧ (s.tripPulseEnd i).ntu = s.ntu ∧
    (s.tripPulseEnd i).store = s.store ∧ (s.tripPulseEnd i).stations = s.stations ∧
    (s.tripPulseEnd i).link = s.link ∧ (s.tripPulseEnd i).bus = s.bus ∧
    (s.tripPulseEnd i).blu = s.blu ∧ (s.tripPulseEnd i).gsq = s.gsq ∧ (s.tripPulseEnd i).shu = s.shu ∧
    (s.tripPulseEnd i).rsq = s.rsq ∧ (s.tripPulseEnd i).params = s.params ∧
    (s.tripPulseEnd i).freeCount = s.freeCount ∧ (s.tripPulseEnd i).pending = s.pending ∧
    (∀ p0, (s.tripPulseEnd i).param p0 = s.param p0) ∧ (∀ i0, (s.tripPulseEnd i).gen i0 = s.gen i0) ∧
    (∀ i0 : SlotIx, (s.tripPulseEnd i).slots[i0.val].gen = s.slots[i0.val].gen) := by
  unfold State.tripPulseEnd
  split <;> simp [State.gen, State.param]

@[simp] theorem State.closeWindowStart_frame (i : SlotIx) (s : State) :
    (s.closeWindowStart i).port = s.port ∧ (s.closeWindowStart i).ntu = s.ntu ∧
    (s.closeWindowStart i).store = s.store ∧ (s.closeWindowStart i).stations = s.stations ∧
    (s.closeWindowStart i).link = s.link ∧ (s.closeWindowStart i).bus = s.bus ∧
    (s.closeWindowStart i).blu = s.blu ∧ (s.closeWindowStart i).gsq = s.gsq ∧
    (s.closeWindowStart i).shu = s.shu ∧ (s.closeWindowStart i).rsq = s.rsq ∧
    (s.closeWindowStart i).params = s.params ∧ (s.closeWindowStart i).freeCount = s.freeCount ∧
    (s.closeWindowStart i).pending = s.pending ∧ (∀ p0, (s.closeWindowStart i).param p0 = s.param p0) ∧
    (∀ i0, (s.closeWindowStart i).gen i0 = s.gen i0) ∧
    (∀ i0 : SlotIx, (s.closeWindowStart i).slots[i0.val].gen = s.slots[i0.val].gen) := by
  unfold State.closeWindowStart
  (repeat' split) <;> simp [State.gen, State.param]

@[simp] theorem State.closeWindowEnd_frame (i : SlotIx) (s : State) :
    (s.closeWindowEnd i).port = s.port ∧ (s.closeWindowEnd i).ntu = s.ntu ∧
    (s.closeWindowEnd i).store = s.store ∧ (s.closeWindowEnd i).stations = s.stations ∧
    (s.closeWindowEnd i).link = s.link ∧ (s.closeWindowEnd i).bus = s.bus ∧
    (s.closeWindowEnd i).blu = s.blu ∧ (s.closeWindowEnd i).gsq = s.gsq ∧
    (s.closeWindowEnd i).shu = s.shu ∧ (s.closeWindowEnd i).rsq = s.rsq ∧
    (s.closeWindowEnd i).params = s.params ∧ (s.closeWindowEnd i).freeCount = s.freeCount ∧
    (s.closeWindowEnd i).pending = s.pending ∧ (∀ p0, (s.closeWindowEnd i).param p0 = s.param p0) ∧
    (∀ i0, (s.closeWindowEnd i).gen i0 = s.gen i0) ∧
    (∀ i0 : SlotIx, (s.closeWindowEnd i).slots[i0.val].gen = s.slots[i0.val].gen) := by
  unfold State.closeWindowEnd
  (repeat' split) <;> simp [State.gen, State.param]

@[simp] theorem State.raiseHold_frame (i : SlotIx) (s : State) :
    (s.raiseHold i).now = s.now ∧ (s.raiseHold i).port = s.port ∧ (s.raiseHold i).store = s.store ∧
    (s.raiseHold i).stations = s.stations ∧ (s.raiseHold i).link = s.link ∧
    (s.raiseHold i).bus = s.bus ∧ (s.raiseHold i).blu = s.blu ∧ (s.raiseHold i).gsq = s.gsq ∧
    (s.raiseHold i).shu = s.shu ∧ (s.raiseHold i).rsq = s.rsq ∧ (s.raiseHold i).scu = s.scu ∧
    (s.raiseHold i).lines = s.lines ∧ (s.raiseHold i).params = s.params ∧
    (s.raiseHold i).mail = s.mail ∧ (s.raiseHold i).freeCount = s.freeCount ∧
    (s.raiseHold i).pending = s.pending ∧ (∀ p0, (s.raiseHold i).param p0 = s.param p0) ∧
    (∀ i0, (s.raiseHold i).gen i0 = s.gen i0) ∧ (s.raiseHold i).timeS = s.timeS ∧
    (∀ i0 : SlotIx, (s.raiseHold i).slots[i0.val].gen = s.slots[i0.val].gen) := by
  unfold State.raiseHold
  (repeat' split) <;> simp [State.gen, State.param, State.timeS]

@[simp] theorem State.addHold_frame (i : SlotIx) (s : State) :
    (s.addHold i).now = s.now ∧ (s.addHold i).port = s.port ∧ (s.addHold i).store = s.store ∧
    (s.addHold i).stations = s.stations ∧ (s.addHold i).link = s.link ∧ (s.addHold i).bus = s.bus ∧
    (s.addHold i).gsq = s.gsq ∧ (s.addHold i).rsq = s.rsq ∧ (s.addHold i).scu = s.scu ∧
    (s.addHold i).lines = s.lines ∧ (s.addHold i).params = s.params ∧
    (s.addHold i).freeCount = s.freeCount ∧ (s.addHold i).pending = s.pending ∧
    (∀ p0, (s.addHold i).param p0 = s.param p0) ∧ (∀ i0, (s.addHold i).gen i0 = s.gen i0) ∧
    (s.addHold i).timeS = s.timeS ∧
    (∀ i0 : SlotIx, (s.addHold i).slots[i0.val].gen = s.slots[i0.val].gen) := by
  simp [State.addHold, State.gen, State.param, State.timeS]

@[simp] theorem State.dropHold_frame (i : SlotIx) (s : State) :
    (s.dropHold i).now = s.now ∧ (s.dropHold i).port = s.port ∧ (s.dropHold i).store = s.store ∧
    (s.dropHold i).stations = s.stations ∧ (s.dropHold i).link = s.link ∧ (s.dropHold i).bus = s.bus ∧
    (s.dropHold i).blu = s.blu ∧ (s.dropHold i).gsq = s.gsq ∧ (s.dropHold i).shu = s.shu ∧
    (s.dropHold i).rsq = s.rsq ∧ (s.dropHold i).scu = s.scu ∧ (s.dropHold i).lines = s.lines ∧
    (s.dropHold i).params = s.params ∧ (s.dropHold i).mail = s.mail ∧
    (s.dropHold i).freeCount = s.freeCount ∧ (s.dropHold i).pending = s.pending ∧
    (∀ p0, (s.dropHold i).param p0 = s.param p0) ∧ (∀ i0, (s.dropHold i).gen i0 = s.gen i0) ∧
    (s.dropHold i).timeS = s.timeS ∧
    (∀ i0 : SlotIx, (s.dropHold i).slots[i0.val].gen = s.slots[i0.val].gen) := by
  unfold State.dropHold
  (repeat' split) <;> simp [State.gen, State.param, State.timeS]

@[simp] theorem State.holdRequest_now (c : Instr) (mask : BitVec 64) (f : SlotIx → State → State) (hf :
    ∀ i s, (f i s).now = s.now) (s : State) : (s.holdRequest c mask f).now = s.now := by
  unfold State.holdRequest
  simp [hf]

@[simp] theorem State.holdRequest_ntu (c : Instr) (mask : BitVec 64) (f : SlotIx → State → State) (hf :
    ∀ i s, (f i s).ntu = s.ntu) (s : State) : (s.holdRequest c mask f).ntu = s.ntu := by
  unfold State.holdRequest
  simp [hf]

@[simp] theorem State.holdRequest_store (c : Instr) (mask : BitVec 64) (f : SlotIx → State → State) (hf
    : ∀ i s, (f i s).store = s.store) (s : State) : (s.holdRequest c mask f).store = s.store := by
  unfold State.holdRequest
  simp [hf]

@[simp] theorem State.holdRequest_slots (c : Instr) (mask : BitVec 64) (f : SlotIx → State → State) (hf
    : ∀ i s, (f i s).slots = s.slots) (s : State) : (s.holdRequest c mask f).slots = s.slots := by
  unfold State.holdRequest
  simp [hf]

@[simp] theorem State.holdRequest_stations (c : Instr) (mask : BitVec 64) (f : SlotIx → State → State)
    (hf : ∀ i s, (f i s).stations = s.stations) (s : State) : (s.holdRequest c mask f).stations =
    s.stations := by
  unfold State.holdRequest
  simp [hf]

@[simp] theorem State.holdRequest_link (c : Instr) (mask : BitVec 64) (f : SlotIx → State → State) (hf :
    ∀ i s, (f i s).link = s.link) (s : State) : (s.holdRequest c mask f).link = s.link := by
  unfold State.holdRequest
  simp [hf]

@[simp] theorem State.holdRequest_bus (c : Instr) (mask : BitVec 64) (f : SlotIx → State → State) (hf :
    ∀ i s, (f i s).bus = s.bus) (s : State) : (s.holdRequest c mask f).bus = s.bus := by
  unfold State.holdRequest
  simp [hf]

@[simp] theorem State.holdRequest_blu (c : Instr) (mask : BitVec 64) (f : SlotIx → State → State) (hf :
    ∀ i s, (f i s).blu = s.blu) (s : State) : (s.holdRequest c mask f).blu = s.blu := by
  unfold State.holdRequest
  simp [hf]

@[simp] theorem State.holdRequest_gsq (c : Instr) (mask : BitVec 64) (f : SlotIx → State → State) (hf :
    ∀ i s, (f i s).gsq = s.gsq) (s : State) : (s.holdRequest c mask f).gsq = s.gsq := by
  unfold State.holdRequest
  simp [hf]

@[simp] theorem State.holdRequest_shu (c : Instr) (mask : BitVec 64) (f : SlotIx → State → State) (hf :
    ∀ i s, (f i s).shu = s.shu) (s : State) : (s.holdRequest c mask f).shu = s.shu := by
  unfold State.holdRequest
  simp [hf]

@[simp] theorem State.holdRequest_rsq (c : Instr) (mask : BitVec 64) (f : SlotIx → State → State) (hf :
    ∀ i s, (f i s).rsq = s.rsq) (s : State) : (s.holdRequest c mask f).rsq = s.rsq := by
  unfold State.holdRequest
  simp [hf]

@[simp] theorem State.holdRequest_scu (c : Instr) (mask : BitVec 64) (f : SlotIx → State → State) (hf :
    ∀ i s, (f i s).scu = s.scu) (s : State) : (s.holdRequest c mask f).scu = s.scu := by
  unfold State.holdRequest
  simp [hf]

@[simp] theorem State.holdRequest_lines (c : Instr) (mask : BitVec 64) (f : SlotIx → State → State) (hf
    : ∀ i s, (f i s).lines = s.lines) (s : State) : (s.holdRequest c mask f).lines = s.lines := by
  unfold State.holdRequest
  simp [hf]

@[simp] theorem State.holdRequest_params (c : Instr) (mask : BitVec 64) (f : SlotIx → State → State) (hf
    : ∀ i s, (f i s).params = s.params) (s : State) : (s.holdRequest c mask f).params = s.params := by
  unfold State.holdRequest
  simp [hf]

@[simp] theorem State.holdRequest_mail (c : Instr) (mask : BitVec 64) (f : SlotIx → State → State) (hf :
    ∀ i s, (f i s).mail = s.mail) (s : State) : (s.holdRequest c mask f).mail = s.mail := by
  unfold State.holdRequest
  simp [hf]

@[simp] theorem State.holdRequest_pending (c : Instr) (mask : BitVec 64) (f : SlotIx → State → State)
    (hf : ∀ i s, (f i s).pending = s.pending) (s : State) : (s.holdRequest c mask f).pending = s.pending
    := by
  unfold State.holdRequest
  simp [hf]

@[simp] theorem State.holdRequest_param (c : Instr) (mask : BitVec 64) (f : SlotIx → State → State) (hf
    : ∀ i s, (∀ p0, (f i s).param p0 = s.param p0)) (s : State) : (∀ p0, (s.holdRequest c mask f).param
    p0 = s.param p0) := by
  unfold State.holdRequest
  simp [hf]

@[simp] theorem State.holdRequest_gen (c : Instr) (mask : BitVec 64) (f : SlotIx → State → State) (hf :
    ∀ i s, (∀ i0, (f i s).gen i0 = s.gen i0)) (s : State) : (∀ i0, (s.holdRequest c mask f).gen i0 =
    s.gen i0) := by
  unfold State.holdRequest
  simp [hf]

@[simp] theorem State.holdRequest_timeS (c : Instr) (mask : BitVec 64) (f : SlotIx → State → State) (hf
    : ∀ i s, (f i s).timeS = s.timeS) (s : State) : (s.holdRequest c mask f).timeS = s.timeS := by
  unfold State.holdRequest
  simp [hf]

@[simp] theorem State.holdRequest_sgen (c : Instr) (mask : BitVec 64) (f : SlotIx → State → State) (hf :
    ∀ i s, (∀ i0 : SlotIx, (f i s).slots[i0.val].gen = s.slots[i0.val].gen)) (s : State) : (∀ i0 :
    SlotIx, (s.holdRequest c mask f).slots[i0.val].gen = s.slots[i0.val].gen) := by
  unfold State.holdRequest
  simp [hf]

@[simp] theorem State.hostTrip_frame (i : SlotIx) (f : Feeder) (s : State) :
    (s.hostTrip i f).now = s.now ∧ (s.hostTrip i f).port = s.port ∧ (s.hostTrip i f).store = s.store ∧
    (s.hostTrip i f).stations = s.stations ∧ (s.hostTrip i f).link = s.link ∧
    (s.hostTrip i f).bus = s.bus ∧ (s.hostTrip i f).gsq = s.gsq ∧ (s.hostTrip i f).rsq = s.rsq ∧
    (s.hostTrip i f).params = s.params ∧ (s.hostTrip i f).freeCount = s.freeCount ∧
    (s.hostTrip i f).pending = s.pending ∧ (∀ p0, (s.hostTrip i f).param p0 = s.param p0) ∧
    (∀ i0, (s.hostTrip i f).gen i0 = s.gen i0) ∧ (s.hostTrip i f).timeS = s.timeS ∧
    (∀ i0 : SlotIx, (s.hostTrip i f).slots[i0.val].gen = s.slots[i0.val].gen) := by
  unfold State.hostTrip
  split <;> simp [State.gen, State.param, State.timeS]

@[simp] theorem State.tripRequested_frame (h : Handle) (i : SlotIx) (s : State) :
    (s.tripRequested h i).now = s.now ∧ (s.tripRequested h i).store = s.store ∧
    (s.tripRequested h i).stations = s.stations ∧ (s.tripRequested h i).link = s.link ∧
    (s.tripRequested h i).bus = s.bus ∧ (s.tripRequested h i).gsq = s.gsq ∧
    (s.tripRequested h i).rsq = s.rsq ∧ (s.tripRequested h i).params = s.params ∧
    (s.tripRequested h i).pending = s.pending ∧ (∀ p0, (s.tripRequested h i).param p0 = s.param p0) ∧
    (∀ i0, (s.tripRequested h i).gen i0 = s.gen i0) ∧ (s.tripRequested h i).timeS = s.timeS ∧
    (∀ i0 : SlotIx, (s.tripRequested h i).slots[i0.val].gen = s.slots[i0.val].gen) := by
  unfold State.tripRequested
  (repeat' split) <;> simp [State.gen, State.param, State.timeS]

@[simp] theorem State.recloseRequested_frame (h : Handle) (i : SlotIx) (s : State) :
    (s.recloseRequested h i).now = s.now ∧ (s.recloseRequested h i).ntu = s.ntu ∧
    (s.recloseRequested h i).store = s.store ∧ (s.recloseRequested h i).stations = s.stations ∧
    (s.recloseRequested h i).link = s.link ∧ (s.recloseRequested h i).bus = s.bus ∧
    (s.recloseRequested h i).blu = s.blu ∧ (s.recloseRequested h i).gsq = s.gsq ∧
    (s.recloseRequested h i).shu = s.shu ∧ (s.recloseRequested h i).rsq = s.rsq ∧
    (s.recloseRequested h i).params = s.params ∧ (s.recloseRequested h i).pending = s.pending ∧
    (s.recloseRequested h i).timeS = s.timeS := by
  and_intros
  · unfold State.recloseRequested
    split
    · rfl
    · split
      · simp
      · split
        · rename_i h
          simp
          exact closeRequest_keeps (fun s => s.now) (by intros; simp) (by intros; simp) (by intros; simp) h
        · simp
  · unfold State.recloseRequested
    split
    · rfl
    · split
      · simp
      · split
        · rename_i h
          simp
          exact closeRequest_keeps (fun s => s.ntu) (by intros; simp) (by intros; simp) (by intros; simp) h
        · simp
  · unfold State.recloseRequested
    split
    · rfl
    · split
      · simp
      · split
        · rename_i h
          simp
          exact closeRequest_keeps (fun s => s.store) (by intros; simp) (by intros; simp) (by intros; simp) h
        · simp
  · unfold State.recloseRequested
    split
    · rfl
    · split
      · simp
      · split
        · rename_i h
          simp
          exact closeRequest_keeps (fun s => s.stations) (by intros; simp) (by intros; simp) (by intros; simp) h
        · simp
  · unfold State.recloseRequested
    split
    · rfl
    · split
      · simp
      · split
        · rename_i h
          simp
          exact closeRequest_keeps (fun s => s.link) (by intros; simp) (by intros; simp) (by intros; simp) h
        · simp
  · unfold State.recloseRequested
    split
    · rfl
    · split
      · simp
      · split
        · rename_i h
          simp
          exact closeRequest_keeps (fun s => s.bus) (by intros; simp) (by intros; simp) (by intros; simp) h
        · simp
  · unfold State.recloseRequested
    split
    · rfl
    · split
      · simp
      · split
        · rename_i h
          simp
          exact closeRequest_keeps (fun s => s.blu) (by intros; simp) (by intros; simp) (by intros; simp) h
        · simp
  · unfold State.recloseRequested
    split
    · rfl
    · split
      · simp
      · split
        · rename_i h
          simp
          exact closeRequest_keeps (fun s => s.gsq) (by intros; simp) (by intros; simp) (by intros; simp) h
        · simp
  · unfold State.recloseRequested
    split
    · rfl
    · split
      · simp
      · split
        · rename_i h
          simp
          exact closeRequest_keeps (fun s => s.shu) (by intros; simp) (by intros; simp) (by intros; simp) h
        · simp
  · unfold State.recloseRequested
    split
    · rfl
    · split
      · simp
      · split
        · rename_i h
          simp
          exact closeRequest_keeps (fun s => s.rsq) (by intros; simp) (by intros; simp) (by intros; simp) h
        · simp
  · unfold State.recloseRequested
    split
    · rfl
    · split
      · simp
      · split
        · rename_i h
          simp
          exact closeRequest_keeps (fun s => s.params) (by intros; simp) (by intros; simp) (by intros; simp) h
        · simp
  · unfold State.recloseRequested
    split
    · rfl
    · split
      · simp
      · split
        · rename_i h
          simp
          exact closeRequest_keeps (fun s => s.pending) (by intros; simp) (by intros; simp) (by intros; simp) h
        · simp
  · unfold State.recloseRequested
    split
    · rfl
    · split
      · simp
      · split
        · rename_i h
          simp
          exact closeRequest_keeps (fun s => s.timeS) (by intros; simp) (by intros; simp) (by intros; simp) h
        · simp

@[simp] theorem State.clearFault_frame (i : SlotIx) (f : Feeder) (s : State) :
    (s.clearFault i f).now = s.now ∧ (s.clearFault i f).port = s.port ∧
    (s.clearFault i f).ntu = s.ntu ∧ (s.clearFault i f).store = s.store ∧
    (s.clearFault i f).stations = s.stations ∧ (s.clearFault i f).link = s.link ∧
    (s.clearFault i f).bus = s.bus ∧ (s.clearFault i f).blu = s.blu ∧ (s.clearFault i f).gsq = s.gsq ∧
    (s.clearFault i f).shu = s.shu ∧ (s.clearFault i f).rsq = s.rsq ∧ (s.clearFault i f).scu = s.scu ∧
    (s.clearFault i f).lines = s.lines ∧ (s.clearFault i f).params = s.params ∧
    (s.clearFault i f).freeCount = s.freeCount ∧ (s.clearFault i f).pending = s.pending ∧
    (∀ p0, (s.clearFault i f).param p0 = s.param p0) ∧ (∀ i0, (s.clearFault i f).gen i0 = s.gen i0) ∧
    (s.clearFault i f).timeS = s.timeS ∧
    (∀ i0 : SlotIx, (s.clearFault i f).slots[i0.val].gen = s.slots[i0.val].gen) := by
  simp [State.clearFault, State.gen, State.param, State.timeS]

@[simp] theorem State.clearFaultRequested_frame (h : Handle) (i : SlotIx) (s : State) :
    (s.clearFaultRequested h i).now = s.now ∧ (s.clearFaultRequested h i).ntu = s.ntu ∧
    (s.clearFaultRequested h i).store = s.store ∧ (s.clearFaultRequested h i).stations = s.stations ∧
    (s.clearFaultRequested h i).link = s.link ∧ (s.clearFaultRequested h i).bus = s.bus ∧
    (s.clearFaultRequested h i).blu = s.blu ∧ (s.clearFaultRequested h i).gsq = s.gsq ∧
    (s.clearFaultRequested h i).shu = s.shu ∧ (s.clearFaultRequested h i).rsq = s.rsq ∧
    (s.clearFaultRequested h i).scu = s.scu ∧ (s.clearFaultRequested h i).lines = s.lines ∧
    (s.clearFaultRequested h i).params = s.params ∧ (s.clearFaultRequested h i).pending = s.pending ∧
    (∀ p0, (s.clearFaultRequested h i).param p0 = s.param p0) ∧
    (∀ i0, (s.clearFaultRequested h i).gen i0 = s.gen i0) ∧
    (s.clearFaultRequested h i).timeS = s.timeS ∧
    (∀ i0 : SlotIx, (s.clearFaultRequested h i).slots[i0.val].gen = s.slots[i0.val].gen) := by
  unfold State.clearFaultRequested
  (repeat' split) <;> simp [State.gen, State.param, State.timeS]

end Sys2Proof.Machine
end

