-- ==== Sys2Proof/Laws/FramePlan.lean ====
section
/-! SUPPORT. What the plan (Machine/Plan.lean) leave unchanged: for each operation, the fields of the state that it keeps, as
simp lemmas, so that no later proof unfolds it for a field it does not touch. -/

namespace Sys2Proof.Machine

@[simp] theorem State.modRsq_frame (f : Restoration → Restoration) (s : State) :
    (s.modRsq f).now = s.now ∧ (s.modRsq f).port = s.port ∧ (s.modRsq f).ntu = s.ntu ∧
    (s.modRsq f).store = s.store ∧ (s.modRsq f).slots = s.slots ∧ (s.modRsq f).stations = s.stations ∧
    (s.modRsq f).link = s.link ∧ (s.modRsq f).bus = s.bus ∧ (s.modRsq f).blu = s.blu ∧
    (s.modRsq f).gsq = s.gsq ∧ (s.modRsq f).shu = s.shu ∧ (s.modRsq f).scu = s.scu ∧
    (s.modRsq f).lines = s.lines ∧ (s.modRsq f).params = s.params ∧ (s.modRsq f).mail = s.mail ∧
    (s.modRsq f).freeCount = s.freeCount ∧ (s.modRsq f).pending = s.pending ∧
    (∀ p0, (s.modRsq f).param p0 = s.param p0) ∧ (∀ i0, (s.modRsq f).gen i0 = s.gen i0) ∧
    (s.modRsq f).timeS = s.timeS ∧
    (∀ i0 : SlotIx, (s.modRsq f).slots[i0.val].gen = s.slots[i0.val].gen) := by
  simp [State.modRsq, State.gen, State.param, State.timeS]

@[simp] theorem State.setStatus_frame (p : PosIx) (st : StepStatus) (s : State) :
    (s.setStatus p st).now = s.now ∧ (s.setStatus p st).port = s.port ∧
    (s.setStatus p st).ntu = s.ntu ∧ (s.setStatus p st).store = s.store ∧
    (s.setStatus p st).slots = s.slots ∧ (s.setStatus p st).stations = s.stations ∧
    (s.setStatus p st).link = s.link ∧ (s.setStatus p st).bus = s.bus ∧
    (s.setStatus p st).blu = s.blu ∧ (s.setStatus p st).gsq = s.gsq ∧ (s.setStatus p st).shu = s.shu ∧
    (s.setStatus p st).scu = s.scu ∧ (s.setStatus p st).lines = s.lines ∧
    (s.setStatus p st).params = s.params ∧ (s.setStatus p st).mail = s.mail ∧
    (s.setStatus p st).freeCount = s.freeCount ∧ (s.setStatus p st).pending = s.pending ∧
    (∀ p0, (s.setStatus p st).param p0 = s.param p0) ∧ (∀ i0, (s.setStatus p st).gen i0 = s.gen i0) ∧
    (s.setStatus p st).timeS = s.timeS ∧
    (∀ i0 : SlotIx, (s.setStatus p st).slots[i0.val].gen = s.slots[i0.val].gen) := by
  simp [State.setStatus, State.gen, State.param, State.timeS]

@[simp] theorem State.cancelStep_frame (s : State) :
    s.cancelStep.now = s.now ∧ s.cancelStep.port = s.port ∧ s.cancelStep.ntu = s.ntu ∧
    s.cancelStep.store = s.store ∧ s.cancelStep.slots = s.slots ∧ s.cancelStep.stations = s.stations ∧
    s.cancelStep.link = s.link ∧ s.cancelStep.bus = s.bus ∧ s.cancelStep.blu = s.blu ∧
    s.cancelStep.gsq = s.gsq ∧ s.cancelStep.shu = s.shu ∧ s.cancelStep.rsq = s.rsq ∧
    s.cancelStep.lines = s.lines ∧ s.cancelStep.params = s.params ∧ s.cancelStep.mail = s.mail ∧
    s.cancelStep.freeCount = s.freeCount ∧ s.cancelStep.pending = s.pending ∧
    (∀ p0, s.cancelStep.param p0 = s.param p0) ∧ (∀ i0, s.cancelStep.gen i0 = s.gen i0) ∧
    s.cancelStep.timeS = s.timeS ∧
    (∀ i0 : SlotIx, s.cancelStep.slots[i0.val].gen = s.slots[i0.val].gen) := by
  simp [State.cancelStep, State.gen, State.param, State.timeS]

@[simp] theorem State.failPlan_frame (s : State) :
    s.failPlan.now = s.now ∧ s.failPlan.port = s.port ∧ s.failPlan.ntu = s.ntu ∧
    s.failPlan.store = s.store ∧ s.failPlan.stations = s.stations ∧ s.failPlan.link = s.link ∧
    s.failPlan.bus = s.bus ∧ s.failPlan.blu = s.blu ∧ s.failPlan.gsq = s.gsq ∧ s.failPlan.shu = s.shu ∧
    s.failPlan.scu = s.scu ∧ s.failPlan.lines = s.lines ∧ s.failPlan.params = s.params ∧
    s.failPlan.freeCount = s.freeCount ∧ s.failPlan.pending = s.pending ∧
    (∀ p0, s.failPlan.param p0 = s.param p0) ∧ (∀ i0, s.failPlan.gen i0 = s.gen i0) ∧
    s.failPlan.timeS = s.timeS ∧ (∀ i0 : SlotIx, s.failPlan.slots[i0.val].gen = s.slots[i0.val].gen) := by
  simp [State.failPlan, State.gen, State.param, State.timeS]

@[simp] theorem State.completePlan_frame (s : State) :
    s.completePlan.now = s.now ∧ s.completePlan.port = s.port ∧ s.completePlan.store = s.store ∧
    s.completePlan.stations = s.stations ∧ s.completePlan.link = s.link ∧ s.completePlan.bus = s.bus ∧
    s.completePlan.blu = s.blu ∧ s.completePlan.gsq = s.gsq ∧ s.completePlan.shu = s.shu ∧
    s.completePlan.lines = s.lines ∧ s.completePlan.params = s.params ∧
    s.completePlan.freeCount = s.freeCount ∧ s.completePlan.pending = s.pending ∧
    (∀ p0, s.completePlan.param p0 = s.param p0) ∧ (∀ i0, s.completePlan.gen i0 = s.gen i0) ∧
    s.completePlan.timeS = s.timeS ∧
    (∀ i0 : SlotIx, s.completePlan.slots[i0.val].gen = s.slots[i0.val].gen) := by
  simp [State.completePlan, State.gen, State.param, State.timeS]

@[simp] theorem State.moveOn_frame (s : State) :
    s.moveOn.1.now = s.now ∧ s.moveOn.1.port = s.port ∧ s.moveOn.1.store = s.store ∧
    s.moveOn.1.stations = s.stations ∧ s.moveOn.1.link = s.link ∧ s.moveOn.1.bus = s.bus ∧
    s.moveOn.1.blu = s.blu ∧ s.moveOn.1.gsq = s.gsq ∧ s.moveOn.1.shu = s.shu ∧
    s.moveOn.1.lines = s.lines ∧ s.moveOn.1.params = s.params ∧ s.moveOn.1.freeCount = s.freeCount ∧
    s.moveOn.1.pending = s.pending ∧ (∀ p0, s.moveOn.1.param p0 = s.param p0) ∧
    (∀ i0, s.moveOn.1.gen i0 = s.gen i0) ∧ s.moveOn.1.timeS = s.timeS ∧
    (∀ i0 : SlotIx, s.moveOn.1.slots[i0.val].gen = s.slots[i0.val].gen) := by
  unfold State.moveOn
  split <;> simp [State.gen, State.param, State.timeS]

@[simp] theorem State.stepDone_frame (s : State) :
    s.stepDone.now = s.now ∧ s.stepDone.port = s.port ∧ s.stepDone.ntu = s.ntu ∧
    s.stepDone.store = s.store ∧ s.stepDone.slots = s.slots ∧ s.stepDone.stations = s.stations ∧
    s.stepDone.link = s.link ∧ s.stepDone.bus = s.bus ∧ s.stepDone.gsq = s.gsq ∧
    s.stepDone.shu = s.shu ∧ s.stepDone.lines = s.lines ∧ s.stepDone.params = s.params ∧
    s.stepDone.mail = s.mail ∧ s.stepDone.freeCount = s.freeCount ∧ s.stepDone.pending = s.pending ∧
    (∀ p0, s.stepDone.param p0 = s.param p0) ∧ (∀ i0, s.stepDone.gen i0 = s.gen i0) ∧
    s.stepDone.timeS = s.timeS ∧ (∀ i0 : SlotIx, s.stepDone.slots[i0.val].gen = s.slots[i0.val].gen) := by
  simp [State.stepDone, State.gen, State.param, State.timeS]

@[simp] theorem State.noticeStep_frame (s : State) :
    s.noticeStep.now = s.now ∧ s.noticeStep.port = s.port ∧ s.noticeStep.store = s.store ∧
    s.noticeStep.slots = s.slots ∧ s.noticeStep.stations = s.stations ∧ s.noticeStep.link = s.link ∧
    s.noticeStep.bus = s.bus ∧ s.noticeStep.blu = s.blu ∧ s.noticeStep.gsq = s.gsq ∧
    s.noticeStep.shu = s.shu ∧ s.noticeStep.rsq = s.rsq ∧ s.noticeStep.scu = s.scu ∧
    s.noticeStep.lines = s.lines ∧ s.noticeStep.params = s.params ∧ s.noticeStep.mail = s.mail ∧
    s.noticeStep.freeCount = s.freeCount ∧ s.noticeStep.pending = s.pending ∧
    (∀ p0, s.noticeStep.param p0 = s.param p0) ∧ (∀ i0, s.noticeStep.gen i0 = s.gen i0) ∧
    s.noticeStep.timeS = s.timeS ∧
    (∀ i0 : SlotIx, s.noticeStep.slots[i0.val].gen = s.slots[i0.val].gen) := by
  simp [State.noticeStep, State.gen, State.param, State.timeS]

@[simp] theorem State.endStep_frame (e : StepEnd) (s : State) :
    (s.endStep e).1.now = s.now ∧ (s.endStep e).1.port = s.port ∧ (s.endStep e).1.store = s.store ∧
    (s.endStep e).1.stations = s.stations ∧ (s.endStep e).1.link = s.link ∧
    (s.endStep e).1.bus = s.bus ∧ (s.endStep e).1.gsq = s.gsq ∧ (s.endStep e).1.shu = s.shu ∧
    (s.endStep e).1.lines = s.lines ∧ (s.endStep e).1.params = s.params ∧
    (s.endStep e).1.freeCount = s.freeCount ∧ (s.endStep e).1.pending = s.pending ∧
    (∀ p0, (s.endStep e).1.param p0 = s.param p0) ∧ (∀ i0, (s.endStep e).1.gen i0 = s.gen i0) ∧
    (s.endStep e).1.timeS = s.timeS ∧
    (∀ i0 : SlotIx, (s.endStep e).1.slots[i0.val].gen = s.slots[i0.val].gen) := by
  and_intros <;> (try intro q) <;> first
    | rfl
    | (simp [State.endStep, State.gen, State.param, State.timeS]; done)
    | (unfold State.endStep; dsimp only; repeat' (first | rfl | (simp [State.gen, State.param, State.timeS]; done) | split))

/-- What the steps begun and ended one after another keep. -/
theorem activate_keeps {β : Type} (P : State → β) (h1 : ∀ s : State, P s.beginStep.1 = P s)
    (h2 : ∀ e (s : State), P (s.endStep e).1 = P s) (n : Nat) (s : State) : P (s.activate n) = P s := by
  induction n generalizing s with
  | zero => rfl
  | succ n ih =>
    unfold State.activate
    split
    · have a := h1 s
      split
      · rename_i h; rw [h] at a; exact a
      · rename_i s1 e h
        rw [h] at a
        have b := h2 e s1
        split
        · rename_i h'; rw [h'] at b; exact (ih _).trans (b.trans a)
        · rename_i h'; rw [h'] at b; exact b.trans a
    · rfl

/-- What a step that ends, and the steps begun after it, keep. -/
theorem finish_keeps {β : Type} (P : State → β) (h1 : ∀ s : State, P s.beginStep.1 = P s)
    (h2 : ∀ e (s : State), P (s.endStep e).1 = P s) (e : StepEnd) (s : State) : P (s.finish e) = P s := by
  unfold State.finish
  have b := h2 e s
  split
  · rename_i h; rw [h] at b; exact (activate_keeps P h1 h2 _ _).trans b
  · rename_i h; rw [h] at b; exact b

@[simp] theorem State.giveOrder_frame (i : SlotIx) (s : State) :
    (s.giveOrder i).now = s.now ∧ (s.giveOrder i).port = s.port ∧ (s.giveOrder i).store = s.store ∧
    (s.giveOrder i).stations = s.stations ∧ (s.giveOrder i).bus = s.bus ∧
    (s.giveOrder i).params = s.params ∧ (s.giveOrder i).freeCount = s.freeCount ∧
    (s.giveOrder i).pending = s.pending ∧ (∀ p0, (s.giveOrder i).param p0 = s.param p0) ∧
    (s.giveOrder i).timeS = s.timeS := by
  simp [State.giveOrder, State.param, State.timeS]

@[simp] theorem State.startSettle_frame (ms f : Nat) (s : State) :
    (s.startSettle ms f).now = s.now ∧ (s.startSettle ms f).port = s.port ∧
    (s.startSettle ms f).ntu = s.ntu ∧ (s.startSettle ms f).store = s.store ∧
    (s.startSettle ms f).slots = s.slots ∧ (s.startSettle ms f).stations = s.stations ∧
    (s.startSettle ms f).link = s.link ∧ (s.startSettle ms f).bus = s.bus ∧
    (s.startSettle ms f).blu = s.blu ∧ (s.startSettle ms f).gsq = s.gsq ∧
    (s.startSettle ms f).shu = s.shu ∧ (s.startSettle ms f).rsq = s.rsq ∧
    (s.startSettle ms f).lines = s.lines ∧ (s.startSettle ms f).params = s.params ∧
    (s.startSettle ms f).mail = s.mail ∧ (s.startSettle ms f).freeCount = s.freeCount ∧
    (s.startSettle ms f).pending = s.pending ∧ (∀ p0, (s.startSettle ms f).param p0 = s.param p0) ∧
    (∀ i0, (s.startSettle ms f).gen i0 = s.gen i0) ∧ (s.startSettle ms f).timeS = s.timeS ∧
    (∀ i0 : SlotIx, (s.startSettle ms f).slots[i0.val].gen = s.slots[i0.val].gen) := by
  simp [State.startSettle, State.gen, State.param, State.timeS]

@[simp] theorem State.workStart_frame (i : SlotIx) (dead : Bool) (s : State) :
    (s.workStart i dead).now = s.now ∧ (s.workStart i dead).port = s.port ∧
    (s.workStart i dead).store = s.store ∧ (s.workStart i dead).stations = s.stations ∧
    (s.workStart i dead).bus = s.bus ∧ (s.workStart i dead).params = s.params ∧
    (s.workStart i dead).freeCount = s.freeCount ∧ (s.workStart i dead).pending = s.pending ∧
    (∀ p0, (s.workStart i dead).param p0 = s.param p0) ∧ (s.workStart i dead).timeS = s.timeS := by
  simp [State.workStart, State.param, State.timeS]

@[simp] theorem State.setCap_frame (i : SlotIx) (cap : Nat) (s : State) :
    (s.setCap i cap).now = s.now ∧ (s.setCap i cap).port = s.port ∧ (s.setCap i cap).ntu = s.ntu ∧
    (s.setCap i cap).store = s.store ∧ (s.setCap i cap).stations = s.stations ∧
    (s.setCap i cap).link = s.link ∧ (s.setCap i cap).bus = s.bus ∧ (s.setCap i cap).blu = s.blu ∧
    (s.setCap i cap).gsq = s.gsq ∧ (s.setCap i cap).shu = s.shu ∧ (s.setCap i cap).rsq = s.rsq ∧
    (s.setCap i cap).scu = s.scu ∧ (s.setCap i cap).lines = s.lines ∧
    (s.setCap i cap).params = s.params ∧ (s.setCap i cap).mail = s.mail ∧
    (s.setCap i cap).freeCount = s.freeCount ∧ (s.setCap i cap).pending = s.pending ∧
    (∀ p0, (s.setCap i cap).param p0 = s.param p0) ∧ (∀ i0, (s.setCap i cap).gen i0 = s.gen i0) ∧
    (s.setCap i cap).timeS = s.timeS ∧
    (∀ i0 : SlotIx, (s.setCap i cap).slots[i0.val].gen = s.slots[i0.val].gen) := by
  simp [State.setCap, State.gen, State.param, State.timeS]

@[simp] theorem State.beginAction_frame (x : PlanStep) (s : State) :
    (s.beginAction x).1.now = s.now ∧ (s.beginAction x).1.port = s.port ∧
    (s.beginAction x).1.store = s.store ∧ (s.beginAction x).1.stations = s.stations ∧
    (s.beginAction x).1.bus = s.bus ∧ (s.beginAction x).1.params = s.params ∧
    (s.beginAction x).1.freeCount = s.freeCount ∧ (s.beginAction x).1.pending = s.pending ∧
    (∀ p0, (s.beginAction x).1.param p0 = s.param p0) ∧ (s.beginAction x).1.timeS = s.timeS := by
  unfold State.beginAction
  (repeat' split) <;> simp [State.param, State.timeS]

@[simp] theorem State.setTimeout_frame (x : PlanStep) (s : State) :
    (s.setTimeout x).now = s.now ∧ (s.setTimeout x).port = s.port ∧ (s.setTimeout x).ntu = s.ntu ∧
    (s.setTimeout x).store = s.store ∧ (s.setTimeout x).slots = s.slots ∧
    (s.setTimeout x).stations = s.stations ∧ (s.setTimeout x).link = s.link ∧
    (s.setTimeout x).bus = s.bus ∧ (s.setTimeout x).blu = s.blu ∧ (s.setTimeout x).gsq = s.gsq ∧
    (s.setTimeout x).shu = s.shu ∧ (s.setTimeout x).rsq = s.rsq ∧ (s.setTimeout x).lines = s.lines ∧
    (s.setTimeout x).params = s.params ∧ (s.setTimeout x).mail = s.mail ∧
    (s.setTimeout x).freeCount = s.freeCount ∧ (s.setTimeout x).pending = s.pending ∧
    (∀ p0, (s.setTimeout x).param p0 = s.param p0) ∧ (∀ i0, (s.setTimeout x).gen i0 = s.gen i0) ∧
    (s.setTimeout x).timeS = s.timeS ∧
    (∀ i0 : SlotIx, (s.setTimeout x).slots[i0.val].gen = s.slots[i0.val].gen) := by
  simp [State.setTimeout, State.gen, State.param, State.timeS]

@[simp] theorem State.beginStep_frame (s : State) :
    s.beginStep.1.now = s.now ∧ s.beginStep.1.port = s.port ∧ s.beginStep.1.store = s.store ∧
    s.beginStep.1.stations = s.stations ∧ s.beginStep.1.bus = s.bus ∧ s.beginStep.1.params = s.params ∧
    s.beginStep.1.freeCount = s.freeCount ∧ s.beginStep.1.pending = s.pending ∧
    (∀ p0, s.beginStep.1.param p0 = s.param p0) ∧ s.beginStep.1.timeS = s.timeS := by
  and_intros <;> (try intro q) <;> first
    | rfl
    | (simp [State.beginStep, State.param, State.timeS]; done)
    | (unfold State.beginStep; dsimp only; repeat' (first | rfl | (simp [State.param, State.timeS]; done) | split))

@[simp] theorem State.activate_frame (n : Nat) (s : State) :
    (s.activate n).now = s.now ∧ (s.activate n).port = s.port ∧ (s.activate n).store = s.store ∧
    (s.activate n).stations = s.stations ∧ (s.activate n).bus = s.bus ∧
    (s.activate n).params = s.params ∧ (s.activate n).freeCount = s.freeCount ∧
    (s.activate n).pending = s.pending ∧ (∀ p0, (s.activate n).param p0 = s.param p0) ∧
    (s.activate n).timeS = s.timeS := by
  exact ⟨activate_keeps (fun s => s.now) (by simp) (by simp) n s,
    activate_keeps (fun s => s.port) (by simp) (by simp) n s,
    activate_keeps (fun s => s.store) (by simp) (by simp) n s,
    activate_keeps (fun s => s.stations) (by simp) (by simp) n s,
    activate_keeps (fun s => s.bus) (by simp) (by simp) n s,
    activate_keeps (fun s => s.params) (by simp) (by simp) n s,
    activate_keeps (fun s => s.freeCount) (by simp) (by simp) n s,
    activate_keeps (fun s => s.pending) (by simp) (by simp) n s,
    fun q => activate_keeps (fun s => s.param q) (by simp [State.param]) (by simp [State.param]) n s,
    activate_keeps (fun s => s.timeS) (by simp [State.timeS]) (by simp [State.timeS]) n s⟩

@[simp] theorem State.finish_frame (e : StepEnd) (s : State) :
    (s.finish e).now = s.now ∧ (s.finish e).port = s.port ∧ (s.finish e).store = s.store ∧
    (s.finish e).stations = s.stations ∧ (s.finish e).bus = s.bus ∧ (s.finish e).params = s.params ∧
    (s.finish e).freeCount = s.freeCount ∧ (s.finish e).pending = s.pending ∧
    (∀ p0, (s.finish e).param p0 = s.param p0) ∧ (s.finish e).timeS = s.timeS := by
  exact ⟨finish_keeps (fun s => s.now) (by simp) (by simp) e s,
    finish_keeps (fun s => s.port) (by simp) (by simp) e s,
    finish_keeps (fun s => s.store) (by simp) (by simp) e s,
    finish_keeps (fun s => s.stations) (by simp) (by simp) e s,
    finish_keeps (fun s => s.bus) (by simp) (by simp) e s,
    finish_keeps (fun s => s.params) (by simp) (by simp) e s,
    finish_keeps (fun s => s.freeCount) (by simp) (by simp) e s,
    finish_keeps (fun s => s.pending) (by simp) (by simp) e s,
    fun q => finish_keeps (fun s => s.param q) (by simp [State.param]) (by simp [State.param]) e s,
    finish_keeps (fun s => s.timeS) (by simp [State.timeS]) (by simp [State.timeS]) e s⟩

@[simp] theorem State.pausePlan_frame (s : State) :
    s.pausePlan.now = s.now ∧ s.pausePlan.port = s.port ∧ s.pausePlan.ntu = s.ntu ∧
    s.pausePlan.store = s.store ∧ s.pausePlan.slots = s.slots ∧ s.pausePlan.stations = s.stations ∧
    s.pausePlan.link = s.link ∧ s.pausePlan.bus = s.bus ∧ s.pausePlan.blu = s.blu ∧
    s.pausePlan.gsq = s.gsq ∧ s.pausePlan.shu = s.shu ∧ s.pausePlan.lines = s.lines ∧
    s.pausePlan.params = s.params ∧ s.pausePlan.mail = s.mail ∧ s.pausePlan.freeCount = s.freeCount ∧
    s.pausePlan.pending = s.pending ∧ (∀ p0, s.pausePlan.param p0 = s.param p0) ∧
    (∀ i0, s.pausePlan.gen i0 = s.gen i0) ∧ s.pausePlan.timeS = s.timeS ∧
    (∀ i0 : SlotIx, s.pausePlan.slots[i0.val].gen = s.slots[i0.val].gen) := by
  simp [State.pausePlan, State.gen, State.param, State.timeS]

@[simp] theorem State.startPlan_frame (s : State) :
    s.startPlan.now = s.now ∧ s.startPlan.port = s.port ∧ s.startPlan.ntu = s.ntu ∧
    s.startPlan.store = s.store ∧ s.startPlan.slots = s.slots ∧ s.startPlan.stations = s.stations ∧
    s.startPlan.link = s.link ∧ s.startPlan.bus = s.bus ∧ s.startPlan.blu = s.blu ∧
    s.startPlan.gsq = s.gsq ∧ s.startPlan.shu = s.shu ∧ s.startPlan.lines = s.lines ∧
    s.startPlan.params = s.params ∧ s.startPlan.freeCount = s.freeCount ∧
    s.startPlan.pending = s.pending ∧ (∀ p0, s.startPlan.param p0 = s.param p0) ∧
    (∀ i0, s.startPlan.gen i0 = s.gen i0) ∧ s.startPlan.timeS = s.timeS ∧
    (∀ i0 : SlotIx, s.startPlan.slots[i0.val].gen = s.slots[i0.val].gen) := by
  simp [State.startPlan, State.gen, State.param, State.timeS]

@[simp] theorem State.abortPlan_frame (s : State) :
    s.abortPlan.now = s.now ∧ s.abortPlan.port = s.port ∧ s.abortPlan.ntu = s.ntu ∧
    s.abortPlan.store = s.store ∧ s.abortPlan.stations = s.stations ∧ s.abortPlan.link = s.link ∧
    s.abortPlan.bus = s.bus ∧ s.abortPlan.blu = s.blu ∧ s.abortPlan.gsq = s.gsq ∧
    s.abortPlan.shu = s.shu ∧ s.abortPlan.lines = s.lines ∧ s.abortPlan.params = s.params ∧
    s.abortPlan.freeCount = s.freeCount ∧ s.abortPlan.pending = s.pending ∧
    (∀ p0, s.abortPlan.param p0 = s.param p0) ∧ (∀ i0, s.abortPlan.gen i0 = s.gen i0) ∧
    s.abortPlan.timeS = s.timeS ∧ (∀ i0 : SlotIx, s.abortPlan.slots[i0.val].gen = s.slots[i0.val].gen) := by
  simp [State.abortPlan, State.gen, State.param, State.timeS]

@[simp] theorem State.overtakePlan_frame (s : State) :
    s.overtakePlan.now = s.now ∧ s.overtakePlan.port = s.port ∧ s.overtakePlan.store = s.store ∧
    s.overtakePlan.stations = s.stations ∧ s.overtakePlan.link = s.link ∧ s.overtakePlan.bus = s.bus ∧
    s.overtakePlan.blu = s.blu ∧ s.overtakePlan.gsq = s.gsq ∧ s.overtakePlan.shu = s.shu ∧
    s.overtakePlan.lines = s.lines ∧ s.overtakePlan.params = s.params ∧
    s.overtakePlan.freeCount = s.freeCount ∧ s.overtakePlan.pending = s.pending ∧
    (∀ p0, s.overtakePlan.param p0 = s.param p0) ∧ (∀ i0, s.overtakePlan.gen i0 = s.gen i0) ∧
    s.overtakePlan.timeS = s.timeS ∧
    (∀ i0 : SlotIx, s.overtakePlan.slots[i0.val].gen = s.slots[i0.val].gen) := by
  simp [State.overtakePlan, State.gen, State.param, State.timeS]

@[simp] theorem State.rsqEvent_frame (i : SlotIx) (k : Kind) (e : StepEnd) (s : State) :
    (s.rsqEvent i k e).now = s.now ∧ (s.rsqEvent i k e).port = s.port ∧
    (s.rsqEvent i k e).store = s.store ∧ (s.rsqEvent i k e).stations = s.stations ∧
    (s.rsqEvent i k e).bus = s.bus ∧ (s.rsqEvent i k e).params = s.params ∧
    (s.rsqEvent i k e).freeCount = s.freeCount ∧ (s.rsqEvent i k e).pending = s.pending ∧
    (∀ p0, (s.rsqEvent i k e).param p0 = s.param p0) ∧ (s.rsqEvent i k e).timeS = s.timeS := by
  simp [State.rsqEvent, State.param, State.timeS]

@[simp] theorem State.testClose_frame (h : Handle) (headroom : Int) (s : State) :
    (s.testClose h headroom).now = s.now ∧ (s.testClose h headroom).port = s.port ∧
    (s.testClose h headroom).store = s.store ∧ (s.testClose h headroom).stations = s.stations ∧
    (s.testClose h headroom).bus = s.bus ∧ (s.testClose h headroom).params = s.params ∧
    (s.testClose h headroom).freeCount = s.freeCount ∧ (s.testClose h headroom).pending = s.pending ∧
    (∀ p0, (s.testClose h headroom).param p0 = s.param p0) ∧ (s.testClose h headroom).timeS = s.timeS := by
  and_intros
  · unfold State.testClose
    split
    · rfl
    · split
      · split
        · rename_i h
          simp
          exact planClose_keeps (fun s => s.now) (by intros; simp) (by intros; simp) (by intros; simp) h
        · simp
        · split <;> simp
      · rfl
  · unfold State.testClose
    split
    · rfl
    · split
      · split
        · rename_i h
          simp
          exact planClose_keeps (fun s => s.port) (by intros; simp) (by intros; simp) (by intros; simp) h
        · simp
        · split <;> simp
      · rfl
  · unfold State.testClose
    split
    · rfl
    · split
      · split
        · rename_i h
          simp
          exact planClose_keeps (fun s => s.store) (by intros; simp) (by intros; simp) (by intros; simp) h
        · simp
        · split <;> simp
      · rfl
  · unfold State.testClose
    split
    · rfl
    · split
      · split
        · rename_i h
          simp
          exact planClose_keeps (fun s => s.stations) (by intros; simp) (by intros; simp) (by intros; simp) h
        · simp
        · split <;> simp
      · rfl
  · unfold State.testClose
    split
    · rfl
    · split
      · split
        · rename_i h
          simp
          exact planClose_keeps (fun s => s.bus) (by intros; simp) (by intros; simp) (by intros; simp) h
        · simp
        · split <;> simp
      · rfl
  · unfold State.testClose
    split
    · rfl
    · split
      · split
        · rename_i h
          simp
          exact planClose_keeps (fun s => s.params) (by intros; simp) (by intros; simp) (by intros; simp) h
        · simp
        · split <;> simp
      · rfl
  · unfold State.testClose
    split
    · rfl
    · split
      · split
        · rename_i h
          simp
          exact planClose_keeps (fun s => s.freeCount) (by intros; simp) (by intros; simp) (by intros; simp) h
        · simp
        · split <;> simp
      · rfl
  · unfold State.testClose
    split
    · rfl
    · split
      · split
        · rename_i h
          simp
          exact planClose_keeps (fun s => s.pending) (by intros; simp) (by intros; simp) (by intros; simp) h
        · simp
        · split <;> simp
      · rfl
  · intro q
    unfold State.testClose
    split
    · rfl
    · split
      · split
        · rename_i h
          simp [State.param]
          exact planClose_keeps (fun s => s.param q) (by intros; simp) (by intros; simp) (by intros; simp) h
        · simp
        · split <;> simp
      · rfl
  · unfold State.testClose
    split
    · rfl
    · split
      · split
        · rename_i h
          simp [State.timeS]
          exact planClose_keeps (fun s => s.timeS) (by intros; simp) (by intros; simp) (by intros; simp) h
        · simp
        · split <;> simp
      · rfl

@[simp] theorem State.rsqEvaluation_frame (headroom : Int) (caps : List CapResult) (s : State) :
    (s.rsqEvaluation headroom caps).now = s.now ∧ (s.rsqEvaluation headroom caps).port = s.port ∧
    (s.rsqEvaluation headroom caps).store = s.store ∧
    (s.rsqEvaluation headroom caps).stations = s.stations ∧
    (s.rsqEvaluation headroom caps).bus = s.bus ∧ (s.rsqEvaluation headroom caps).params = s.params ∧
    (s.rsqEvaluation headroom caps).freeCount = s.freeCount ∧
    (s.rsqEvaluation headroom caps).pending = s.pending ∧
    (∀ p0, (s.rsqEvaluation headroom caps).param p0 = s.param p0) ∧
    (s.rsqEvaluation headroom caps).timeS = s.timeS := by
  unfold State.rsqEvaluation
  (repeat' split) <;> simp [State.param, State.timeS]

@[simp] theorem State.rsqStageRaise_frame (k : StageIx) (s : State) :
    (s.rsqStageRaise k).now = s.now ∧ (s.rsqStageRaise k).port = s.port ∧
    (s.rsqStageRaise k).ntu = s.ntu ∧ (s.rsqStageRaise k).store = s.store ∧
    (s.rsqStageRaise k).slots = s.slots ∧ (s.rsqStageRaise k).stations = s.stations ∧
    (s.rsqStageRaise k).link = s.link ∧ (s.rsqStageRaise k).bus = s.bus ∧
    (s.rsqStageRaise k).blu = s.blu ∧ (s.rsqStageRaise k).gsq = s.gsq ∧
    (s.rsqStageRaise k).shu = s.shu ∧ (s.rsqStageRaise k).lines = s.lines ∧
    (s.rsqStageRaise k).params = s.params ∧ (s.rsqStageRaise k).mail = s.mail ∧
    (s.rsqStageRaise k).freeCount = s.freeCount ∧ (s.rsqStageRaise k).pending = s.pending ∧
    (∀ p0, (s.rsqStageRaise k).param p0 = s.param p0) ∧ (∀ i0, (s.rsqStageRaise k).gen i0 = s.gen i0) ∧
    (s.rsqStageRaise k).timeS = s.timeS ∧
    (∀ i0 : SlotIx, (s.rsqStageRaise k).slots[i0.val].gen = s.slots[i0.val].gen) := by
  cases h : s.rsq.state <;> simp [State.rsqStageRaise, State.modRsq, h, State.gen, State.param, State.timeS]

@[simp] theorem State.rsqStageClear_frame (k : StageIx) (s : State) :
    (s.rsqStageClear k).now = s.now ∧ (s.rsqStageClear k).port = s.port ∧
    (s.rsqStageClear k).ntu = s.ntu ∧ (s.rsqStageClear k).store = s.store ∧
    (s.rsqStageClear k).slots = s.slots ∧ (s.rsqStageClear k).stations = s.stations ∧
    (s.rsqStageClear k).link = s.link ∧ (s.rsqStageClear k).bus = s.bus ∧
    (s.rsqStageClear k).blu = s.blu ∧ (s.rsqStageClear k).gsq = s.gsq ∧
    (s.rsqStageClear k).shu = s.shu ∧ (s.rsqStageClear k).lines = s.lines ∧
    (s.rsqStageClear k).params = s.params ∧ (s.rsqStageClear k).mail = s.mail ∧
    (s.rsqStageClear k).freeCount = s.freeCount ∧ (s.rsqStageClear k).pending = s.pending ∧
    (∀ p0, (s.rsqStageClear k).param p0 = s.param p0) ∧ (∀ i0, (s.rsqStageClear k).gen i0 = s.gen i0) ∧
    (s.rsqStageClear k).timeS = s.timeS ∧
    (∀ i0 : SlotIx, (s.rsqStageClear k).slots[i0.val].gen = s.slots[i0.val].gen) := by
  simp [State.rsqStageClear, State.gen, State.param, State.timeS]

@[simp] theorem State.rsqGrid_frame (old new : GridState) (s : State) :
    (s.rsqGrid old new).now = s.now ∧ (s.rsqGrid old new).port = s.port ∧
    (s.rsqGrid old new).store = s.store ∧ (s.rsqGrid old new).stations = s.stations ∧
    (s.rsqGrid old new).bus = s.bus ∧ (s.rsqGrid old new).params = s.params ∧
    (s.rsqGrid old new).freeCount = s.freeCount ∧ (s.rsqGrid old new).pending = s.pending ∧
    (∀ p0, (s.rsqGrid old new).param p0 = s.param p0) ∧ (s.rsqGrid old new).timeS = s.timeS := by
  and_intros <;> (try intro q) <;> first
    | rfl
    | (simp [State.rsqGrid, State.param, State.timeS]; done)
    | (unfold State.rsqGrid; dsimp only; repeat' (first | rfl | (simp [State.param, State.timeS]; done) | split))

@[simp] theorem State.rsqDark_frame (s : State) :
    s.rsqDark.now = s.now ∧ s.rsqDark.port = s.port ∧ s.rsqDark.store = s.store ∧
    s.rsqDark.stations = s.stations ∧ s.rsqDark.link = s.link ∧ s.rsqDark.bus = s.bus ∧
    s.rsqDark.blu = s.blu ∧ s.rsqDark.gsq = s.gsq ∧ s.rsqDark.shu = s.shu ∧ s.rsqDark.lines = s.lines ∧
    s.rsqDark.params = s.params ∧ s.rsqDark.freeCount = s.freeCount ∧ s.rsqDark.pending = s.pending ∧
    (∀ p0, s.rsqDark.param p0 = s.param p0) ∧ s.rsqDark.timeS = s.timeS := by
  simp [State.rsqDark, State.param, State.timeS]

@[simp] theorem State.lateOrder_frame (x : PlanStep) (s : State) :
    (s.lateOrder x).now = s.now ∧ (s.lateOrder x).port = s.port ∧ (s.lateOrder x).store = s.store ∧
    (s.lateOrder x).stations = s.stations ∧ (s.lateOrder x).bus = s.bus ∧
    (s.lateOrder x).params = s.params ∧ (s.lateOrder x).freeCount = s.freeCount ∧
    (s.lateOrder x).pending = s.pending ∧ (∀ p0, (s.lateOrder x).param p0 = s.param p0) ∧
    (s.lateOrder x).timeS = s.timeS := by
  unfold State.lateOrder
  (repeat' split) <;> simp [State.param, State.timeS]

@[simp] theorem State.lateSettle_frame (x : PlanStep) (s : State) :
    (s.lateSettle x).now = s.now ∧ (s.lateSettle x).port = s.port ∧ (s.lateSettle x).ntu = s.ntu ∧
    (s.lateSettle x).store = s.store ∧ (s.lateSettle x).slots = s.slots ∧
    (s.lateSettle x).stations = s.stations ∧ (s.lateSettle x).link = s.link ∧
    (s.lateSettle x).bus = s.bus ∧ (s.lateSettle x).blu = s.blu ∧ (s.lateSettle x).gsq = s.gsq ∧
    (s.lateSettle x).shu = s.shu ∧ (s.lateSettle x).rsq = s.rsq ∧ (s.lateSettle x).lines = s.lines ∧
    (s.lateSettle x).params = s.params ∧ (s.lateSettle x).mail = s.mail ∧
    (s.lateSettle x).freeCount = s.freeCount ∧ (s.lateSettle x).pending = s.pending ∧
    (∀ p0, (s.lateSettle x).param p0 = s.param p0) ∧ (∀ i0, (s.lateSettle x).gen i0 = s.gen i0) ∧
    (s.lateSettle x).timeS = s.timeS ∧
    (∀ i0 : SlotIx, (s.lateSettle x).slots[i0.val].gen = s.slots[i0.val].gen) := by
  unfold State.lateSettle
  split <;> simp [State.gen, State.param, State.timeS]

@[simp] theorem State.rsqLive_frame (s : State) :
    s.rsqLive.now = s.now ∧ s.rsqLive.port = s.port ∧ s.rsqLive.store = s.store ∧
    s.rsqLive.stations = s.stations ∧ s.rsqLive.bus = s.bus ∧ s.rsqLive.params = s.params ∧
    s.rsqLive.freeCount = s.freeCount ∧ s.rsqLive.pending = s.pending ∧
    (∀ p0, s.rsqLive.param p0 = s.param p0) ∧ s.rsqLive.timeS = s.timeS := by
  and_intros <;> (try intro q) <;> first
    | rfl
    | (simp [State.rsqLive, State.param, State.timeS]; done)
    | (unfold State.rsqLive; dsimp only; repeat' (first | rfl | (simp [State.param, State.timeS]; done) | split))

@[simp] theorem State.rsqFrequency_frame (f : Nat) (s : State) :
    (s.rsqFrequency f).now = s.now ∧ (s.rsqFrequency f).port = s.port ∧
    (s.rsqFrequency f).ntu = s.ntu ∧ (s.rsqFrequency f).store = s.store ∧
    (s.rsqFrequency f).slots = s.slots ∧ (s.rsqFrequency f).stations = s.stations ∧
    (s.rsqFrequency f).link = s.link ∧ (s.rsqFrequency f).bus = s.bus ∧
    (s.rsqFrequency f).blu = s.blu ∧ (s.rsqFrequency f).gsq = s.gsq ∧ (s.rsqFrequency f).shu = s.shu ∧
    (s.rsqFrequency f).rsq = s.rsq ∧ (s.rsqFrequency f).lines = s.lines ∧
    (s.rsqFrequency f).params = s.params ∧ (s.rsqFrequency f).mail = s.mail ∧
    (s.rsqFrequency f).freeCount = s.freeCount ∧ (s.rsqFrequency f).pending = s.pending ∧
    (∀ p0, (s.rsqFrequency f).param p0 = s.param p0) ∧ (∀ i0, (s.rsqFrequency f).gen i0 = s.gen i0) ∧
    (s.rsqFrequency f).timeS = s.timeS ∧
    (∀ i0 : SlotIx, (s.rsqFrequency f).slots[i0.val].gen = s.slots[i0.val].gen) := by
  unfold State.rsqFrequency
  split <;> simp [State.gen, State.param, State.timeS]

@[simp] theorem State.timeoutExpired_frame (s : State) :
    s.timeoutExpired.now = s.now ∧ s.timeoutExpired.port = s.port ∧ s.timeoutExpired.store = s.store ∧
    s.timeoutExpired.stations = s.stations ∧ s.timeoutExpired.bus = s.bus ∧
    s.timeoutExpired.params = s.params ∧ s.timeoutExpired.freeCount = s.freeCount ∧
    s.timeoutExpired.pending = s.pending ∧ (∀ p0, s.timeoutExpired.param p0 = s.param p0) ∧
    s.timeoutExpired.timeS = s.timeS := by
  simp [State.timeoutExpired, State.param, State.timeS]

@[simp] theorem State.settleExpired_frame (s : State) :
    s.settleExpired.now = s.now ∧ s.settleExpired.port = s.port ∧ s.settleExpired.store = s.store ∧
    s.settleExpired.stations = s.stations ∧ s.settleExpired.bus = s.bus ∧
    s.settleExpired.params = s.params ∧ s.settleExpired.freeCount = s.freeCount ∧
    s.settleExpired.pending = s.pending ∧ (∀ p0, s.settleExpired.param p0 = s.param p0) ∧
    s.settleExpired.timeS = s.timeS := by
  unfold State.settleExpired
  split <;> simp [State.param, State.timeS]

@[simp] theorem State.resumeExpired_frame (s : State) :
    s.resumeExpired.now = s.now ∧ s.resumeExpired.port = s.port ∧ s.resumeExpired.store = s.store ∧
    s.resumeExpired.stations = s.stations ∧ s.resumeExpired.bus = s.bus ∧
    s.resumeExpired.params = s.params ∧ s.resumeExpired.freeCount = s.freeCount ∧
    s.resumeExpired.pending = s.pending ∧ (∀ p0, s.resumeExpired.param p0 = s.param p0) ∧
    s.resumeExpired.timeS = s.timeS := by
  and_intros <;> (try intro q) <;> first
    | rfl
    | (simp [State.resumeExpired, State.param, State.timeS]; done)
    | (unfold State.resumeExpired; dsimp only; repeat' (first | rfl | (simp [State.param, State.timeS]; done) | split))

@[simp] theorem State.darkSettleExpired_frame (s : State) :
    s.darkSettleExpired.now = s.now ∧ s.darkSettleExpired.port = s.port ∧
    s.darkSettleExpired.store = s.store ∧ s.darkSettleExpired.slots = s.slots ∧
    s.darkSettleExpired.stations = s.stations ∧ s.darkSettleExpired.link = s.link ∧
    s.darkSettleExpired.bus = s.bus ∧ s.darkSettleExpired.blu = s.blu ∧
    s.darkSettleExpired.gsq = s.gsq ∧ s.darkSettleExpired.shu = s.shu ∧
    s.darkSettleExpired.lines = s.lines ∧ s.darkSettleExpired.params = s.params ∧
    s.darkSettleExpired.freeCount = s.freeCount ∧ s.darkSettleExpired.pending = s.pending ∧
    (∀ p0, s.darkSettleExpired.param p0 = s.param p0) ∧ (∀ i0, s.darkSettleExpired.gen i0 = s.gen i0) ∧
    s.darkSettleExpired.timeS = s.timeS ∧
    (∀ i0 : SlotIx, s.darkSettleExpired.slots[i0.val].gen = s.slots[i0.val].gen) := by
  simp [State.darkSettleExpired, State.gen, State.param, State.timeS]

@[simp] theorem State.planRunRequest_frame (s : State) :
    s.planRunRequest.now = s.now ∧ s.planRunRequest.ntu = s.ntu ∧ s.planRunRequest.store = s.store ∧
    s.planRunRequest.slots = s.slots ∧ s.planRunRequest.stations = s.stations ∧
    s.planRunRequest.link = s.link ∧ s.planRunRequest.bus = s.bus ∧ s.planRunRequest.blu = s.blu ∧
    s.planRunRequest.gsq = s.gsq ∧ s.planRunRequest.shu = s.shu ∧ s.planRunRequest.lines = s.lines ∧
    s.planRunRequest.params = s.params ∧ s.planRunRequest.pending = s.pending ∧
    (∀ p0, s.planRunRequest.param p0 = s.param p0) ∧ (∀ i0, s.planRunRequest.gen i0 = s.gen i0) ∧
    s.planRunRequest.timeS = s.timeS ∧
    (∀ i0 : SlotIx, s.planRunRequest.slots[i0.val].gen = s.slots[i0.val].gen) := by
  simp [State.planRunRequest, State.gen, State.param, State.timeS]

@[simp] theorem State.planAbortRequest_frame (s : State) :
    s.planAbortRequest.now = s.now ∧ s.planAbortRequest.ntu = s.ntu ∧
    s.planAbortRequest.store = s.store ∧ s.planAbortRequest.stations = s.stations ∧
    s.planAbortRequest.link = s.link ∧ s.planAbortRequest.bus = s.bus ∧
    s.planAbortRequest.blu = s.blu ∧ s.planAbortRequest.gsq = s.gsq ∧ s.planAbortRequest.shu = s.shu ∧
    s.planAbortRequest.lines = s.lines ∧ s.planAbortRequest.params = s.params ∧
    s.planAbortRequest.pending = s.pending ∧ (∀ p0, s.planAbortRequest.param p0 = s.param p0) ∧
    (∀ i0, s.planAbortRequest.gen i0 = s.gen i0) ∧ s.planAbortRequest.timeS = s.timeS ∧
    (∀ i0 : SlotIx, s.planAbortRequest.slots[i0.val].gen = s.slots[i0.val].gen) := by
  unfold State.planAbortRequest
  split <;> simp [State.gen, State.param, State.timeS]

@[simp] theorem State.planSetRequest_frame (length autoRun : Nat) (s : State) :
    (s.planSetRequest length autoRun).now = s.now ∧ (s.planSetRequest length autoRun).ntu = s.ntu ∧
    (s.planSetRequest length autoRun).store = s.store ∧
    (s.planSetRequest length autoRun).slots = s.slots ∧
    (s.planSetRequest length autoRun).stations = s.stations ∧
    (s.planSetRequest length autoRun).link = s.link ∧ (s.planSetRequest length autoRun).bus = s.bus ∧
    (s.planSetRequest length autoRun).blu = s.blu ∧ (s.planSetRequest length autoRun).gsq = s.gsq ∧
    (s.planSetRequest length autoRun).shu = s.shu ∧ (s.planSetRequest length autoRun).scu = s.scu ∧
    (s.planSetRequest length autoRun).lines = s.lines ∧
    (s.planSetRequest length autoRun).params = s.params ∧
    (s.planSetRequest length autoRun).mail = s.mail ∧
    (s.planSetRequest length autoRun).pending = s.pending ∧
    (∀ p0, (s.planSetRequest length autoRun).param p0 = s.param p0) ∧
    (∀ i0, (s.planSetRequest length autoRun).gen i0 = s.gen i0) ∧
    (s.planSetRequest length autoRun).timeS = s.timeS ∧
    (∀ i0 : SlotIx, (s.planSetRequest length autoRun).slots[i0.val].gen = s.slots[i0.val].gen) := by
  simp [State.planSetRequest, State.gen, State.param, State.timeS]

@[simp] theorem State.planQueryRequest_frame (first : Nat) (s : State) :
    (s.planQueryRequest first).now = s.now ∧ (s.planQueryRequest first).ntu = s.ntu ∧
    (s.planQueryRequest first).store = s.store ∧ (s.planQueryRequest first).slots = s.slots ∧
    (s.planQueryRequest first).stations = s.stations ∧ (s.planQueryRequest first).link = s.link ∧
    (s.planQueryRequest first).bus = s.bus ∧ (s.planQueryRequest first).blu = s.blu ∧
    (s.planQueryRequest first).gsq = s.gsq ∧ (s.planQueryRequest first).shu = s.shu ∧
    (s.planQueryRequest first).rsq = s.rsq ∧ (s.planQueryRequest first).scu = s.scu ∧
    (s.planQueryRequest first).lines = s.lines ∧ (s.planQueryRequest first).params = s.params ∧
    (s.planQueryRequest first).mail = s.mail ∧ (s.planQueryRequest first).pending = s.pending ∧
    (∀ p0, (s.planQueryRequest first).param p0 = s.param p0) ∧
    (∀ i0, (s.planQueryRequest first).gen i0 = s.gen i0) ∧ (s.planQueryRequest first).timeS = s.timeS ∧
    (∀ i0 : SlotIx, (s.planQueryRequest first).slots[i0.val].gen = s.slots[i0.val].gen) := by
  simp [State.planQueryRequest, State.gen, State.param, State.timeS]

@[simp] theorem State.writeStep_frame (p : PosIx) (x : Option PlanStep) (s : State) :
    (s.writeStep p x).now = s.now ∧ (s.writeStep p x).port = s.port ∧ (s.writeStep p x).ntu = s.ntu ∧
    (s.writeStep p x).store = s.store ∧ (s.writeStep p x).slots = s.slots ∧
    (s.writeStep p x).stations = s.stations ∧ (s.writeStep p x).link = s.link ∧
    (s.writeStep p x).bus = s.bus ∧ (s.writeStep p x).blu = s.blu ∧ (s.writeStep p x).gsq = s.gsq ∧
    (s.writeStep p x).shu = s.shu ∧ (s.writeStep p x).scu = s.scu ∧ (s.writeStep p x).lines = s.lines ∧
    (s.writeStep p x).params = s.params ∧ (s.writeStep p x).mail = s.mail ∧
    (s.writeStep p x).freeCount = s.freeCount ∧ (s.writeStep p x).pending = s.pending ∧
    (∀ p0, (s.writeStep p x).param p0 = s.param p0) ∧ (∀ i0, (s.writeStep p x).gen i0 = s.gen i0) ∧
    (s.writeStep p x).timeS = s.timeS ∧
    (∀ i0 : SlotIx, (s.writeStep p x).slots[i0.val].gen = s.slots[i0.val].gen) := by
  simp [State.writeStep, State.gen, State.param, State.timeS]

@[simp] theorem State.planWriteRequest_frame (position kind : Nat) (target : Option Handle) (value
    timeout onFailure : Nat) (s : State) :
    (s.planWriteRequest position kind target value timeout onFailure).now = s.now ∧
    (s.planWriteRequest position kind target value timeout onFailure).ntu = s.ntu ∧
    (s.planWriteRequest position kind target value timeout onFailure).store = s.store ∧
    (s.planWriteRequest position kind target value timeout onFailure).slots = s.slots ∧
    (s.planWriteRequest position kind target value timeout onFailure).stations = s.stations ∧
    (s.planWriteRequest position kind target value timeout onFailure).link = s.link ∧
    (s.planWriteRequest position kind target value timeout onFailure).bus = s.bus ∧
    (s.planWriteRequest position kind target value timeout onFailure).blu = s.blu ∧
    (s.planWriteRequest position kind target value timeout onFailure).gsq = s.gsq ∧
    (s.planWriteRequest position kind target value timeout onFailure).shu = s.shu ∧
    (s.planWriteRequest position kind target value timeout onFailure).scu = s.scu ∧
    (s.planWriteRequest position kind target value timeout onFailure).lines = s.lines ∧
    (s.planWriteRequest position kind target value timeout onFailure).params = s.params ∧
    (s.planWriteRequest position kind target value timeout onFailure).mail = s.mail ∧
    (s.planWriteRequest position kind target value timeout onFailure).pending = s.pending ∧
    (∀ p0, (s.planWriteRequest position kind target value timeout onFailure).param p0 = s.param p0) ∧
    (∀ i0, (s.planWriteRequest position kind target value timeout onFailure).gen i0 = s.gen i0) ∧
    (s.planWriteRequest position kind target value timeout onFailure).timeS = s.timeS ∧
    (∀ i0 : SlotIx, (s.planWriteRequest position kind target value timeout onFailure).slots[i0.val].gen = s.slots[i0.val].gen) := by
  and_intros <;> (try intro q) <;> first
    | rfl
    | (simp [State.planWriteRequest, State.gen, State.param, State.timeS]; done)
    | (unfold State.planWriteRequest; dsimp only; repeat' (first | rfl | (simp [State.gen, State.param, State.timeS]; done) | split))

end Sys2Proof.Machine
end

