-- ==== Sys2Proof/Laws/FrameBus.lean ====
section
/-! SUPPORT. What the bus and the pins (Machine/Bus.lean) leave unchanged: for each operation, the fields of the state that it keeps, as
simp lemmas, so that no later proof unfolds it for a field it does not touch. -/

namespace Sys2Proof.Machine

@[simp] theorem State.modBus_frame (f : BusMonitor → BusMonitor) (s : State) :
    (s.modBus f).now = s.now ∧ (s.modBus f).port = s.port ∧ (s.modBus f).ntu = s.ntu ∧
    (s.modBus f).store = s.store ∧ (s.modBus f).slots = s.slots ∧ (s.modBus f).stations = s.stations ∧
    (s.modBus f).link = s.link ∧ (s.modBus f).blu = s.blu ∧ (s.modBus f).gsq = s.gsq ∧
    (s.modBus f).shu = s.shu ∧ (s.modBus f).rsq = s.rsq ∧ (s.modBus f).scu = s.scu ∧
    (s.modBus f).lines = s.lines ∧ (s.modBus f).params = s.params ∧ (s.modBus f).mail = s.mail ∧
    (s.modBus f).freeCount = s.freeCount ∧ (s.modBus f).pending = s.pending ∧
    (∀ p0, (s.modBus f).param p0 = s.param p0) ∧ (∀ i0, (s.modBus f).gen i0 = s.gen i0) ∧
    (s.modBus f).timeS = s.timeS ∧
    (∀ i0 : SlotIx, (s.modBus f).slots[i0.val].gen = s.slots[i0.val].gen) := by
  simp [State.modBus, State.gen, State.param, State.timeS]

@[simp] theorem State.stageRaise_frame (k : StageIx) (s : State) :
    (s.stageRaise k).now = s.now ∧ (s.stageRaise k).port = s.port ∧ (s.stageRaise k).store = s.store ∧
    (s.stageRaise k).slots = s.slots ∧ (s.stageRaise k).stations = s.stations ∧
    (s.stageRaise k).link = s.link ∧ (s.stageRaise k).gsq = s.gsq ∧ (s.stageRaise k).shu = s.shu ∧
    (s.stageRaise k).rsq = s.rsq ∧ (s.stageRaise k).scu = s.scu ∧ (s.stageRaise k).lines = s.lines ∧
    (s.stageRaise k).params = s.params ∧ (s.stageRaise k).freeCount = s.freeCount ∧
    (s.stageRaise k).pending = s.pending ∧ (∀ p0, (s.stageRaise k).param p0 = s.param p0) ∧
    (∀ i0, (s.stageRaise k).gen i0 = s.gen i0) ∧ (s.stageRaise k).timeS = s.timeS ∧
    (∀ i0 : SlotIx, (s.stageRaise k).slots[i0.val].gen = s.slots[i0.val].gen) := by
  simp [State.stageRaise, State.gen, State.param, State.timeS]

@[simp] theorem State.stageClear_frame (k : StageIx) (s : State) :
    (s.stageClear k).now = s.now ∧ (s.stageClear k).port = s.port ∧ (s.stageClear k).ntu = s.ntu ∧
    (s.stageClear k).store = s.store ∧ (s.stageClear k).slots = s.slots ∧
    (s.stageClear k).stations = s.stations ∧ (s.stageClear k).link = s.link ∧
    (s.stageClear k).gsq = s.gsq ∧ (s.stageClear k).shu = s.shu ∧ (s.stageClear k).rsq = s.rsq ∧
    (s.stageClear k).scu = s.scu ∧ (s.stageClear k).lines = s.lines ∧
    (s.stageClear k).params = s.params ∧ (s.stageClear k).freeCount = s.freeCount ∧
    (s.stageClear k).pending = s.pending ∧ (∀ p0, (s.stageClear k).param p0 = s.param p0) ∧
    (∀ i0, (s.stageClear k).gen i0 = s.gen i0) ∧ (s.stageClear k).timeS = s.timeS ∧
    (∀ i0 : SlotIx, (s.stageClear k).slots[i0.val].gen = s.slots[i0.val].gen) := by
  simp [State.stageClear, State.gen, State.param, State.timeS]

@[simp] theorem State.testThreshold_frame (k : StageIx) (s : State) :
    (s.testThreshold k).now = s.now ∧ (s.testThreshold k).port = s.port ∧
    (s.testThreshold k).store = s.store ∧ (s.testThreshold k).slots = s.slots ∧
    (s.testThreshold k).stations = s.stations ∧ (s.testThreshold k).link = s.link ∧
    (s.testThreshold k).gsq = s.gsq ∧ (s.testThreshold k).shu = s.shu ∧
    (s.testThreshold k).rsq = s.rsq ∧ (s.testThreshold k).lines = s.lines ∧
    (s.testThreshold k).params = s.params ∧ (s.testThreshold k).freeCount = s.freeCount ∧
    (s.testThreshold k).pending = s.pending ∧ (∀ p0, (s.testThreshold k).param p0 = s.param p0) ∧
    (∀ i0, (s.testThreshold k).gen i0 = s.gen i0) ∧ (s.testThreshold k).timeS = s.timeS ∧
    (∀ i0 : SlotIx, (s.testThreshold k).slots[i0.val].gen = s.slots[i0.val].gen) := by
  unfold State.testThreshold
  (repeat' split) <;> simp [State.gen, State.param, State.timeS]

@[simp] theorem State.testClear_frame (k : StageIx) (s : State) :
    (s.testClear k).now = s.now ∧ (s.testClear k).port = s.port ∧ (s.testClear k).ntu = s.ntu ∧
    (s.testClear k).store = s.store ∧ (s.testClear k).slots = s.slots ∧
    (s.testClear k).stations = s.stations ∧ (s.testClear k).link = s.link ∧
    (s.testClear k).gsq = s.gsq ∧ (s.testClear k).shu = s.shu ∧ (s.testClear k).rsq = s.rsq ∧
    (s.testClear k).scu = s.scu ∧ (s.testClear k).lines = s.lines ∧ (s.testClear k).params = s.params ∧
    (s.testClear k).freeCount = s.freeCount ∧ (s.testClear k).pending = s.pending ∧
    (∀ p0, (s.testClear k).param p0 = s.param p0) ∧ (∀ i0, (s.testClear k).gen i0 = s.gen i0) ∧
    (s.testClear k).timeS = s.timeS ∧
    (∀ i0 : SlotIx, (s.testClear k).slots[i0.val].gen = s.slots[i0.val].gen) := by
  unfold State.testClear
  split <;> simp [State.gen, State.param, State.timeS]

@[simp] theorem State.testStage_frame (k : StageIx) (s : State) :
    (s.testStage k).now = s.now ∧ (s.testStage k).port = s.port ∧ (s.testStage k).store = s.store ∧
    (s.testStage k).slots = s.slots ∧ (s.testStage k).stations = s.stations ∧
    (s.testStage k).link = s.link ∧ (s.testStage k).gsq = s.gsq ∧ (s.testStage k).shu = s.shu ∧
    (s.testStage k).rsq = s.rsq ∧ (s.testStage k).lines = s.lines ∧ (s.testStage k).params = s.params ∧
    (s.testStage k).freeCount = s.freeCount ∧ (s.testStage k).pending = s.pending ∧
    (∀ p0, (s.testStage k).param p0 = s.param p0) ∧ (∀ i0, (s.testStage k).gen i0 = s.gen i0) ∧
    (s.testStage k).timeS = s.timeS ∧
    (∀ i0 : SlotIx, (s.testStage k).slots[i0.val].gen = s.slots[i0.val].gen) := by
  simp [State.testStage, State.gen, State.param, State.timeS]

@[simp] theorem State.frequencyUpdate_frame (oldest newest : Time) (s : State) :
    (s.frequencyUpdate oldest newest).now = s.now ∧ (s.frequencyUpdate oldest newest).port = s.port ∧
    (s.frequencyUpdate oldest newest).store = s.store ∧
    (s.frequencyUpdate oldest newest).slots = s.slots ∧
    (s.frequencyUpdate oldest newest).stations = s.stations ∧
    (s.frequencyUpdate oldest newest).link = s.link ∧ (s.frequencyUpdate oldest newest).gsq = s.gsq ∧
    (s.frequencyUpdate oldest newest).shu = s.shu ∧ (s.frequencyUpdate oldest newest).rsq = s.rsq ∧
    (s.frequencyUpdate oldest newest).lines = s.lines ∧
    (s.frequencyUpdate oldest newest).params = s.params ∧
    (s.frequencyUpdate oldest newest).freeCount = s.freeCount ∧
    (s.frequencyUpdate oldest newest).pending = s.pending ∧
    (∀ p0, (s.frequencyUpdate oldest newest).param p0 = s.param p0) ∧
    (∀ i0, (s.frequencyUpdate oldest newest).gen i0 = s.gen i0) ∧
    (s.frequencyUpdate oldest newest).timeS = s.timeS ∧
    (∀ i0 : SlotIx, (s.frequencyUpdate oldest newest).slots[i0.val].gen = s.slots[i0.val].gen) := by
  simp [State.frequencyUpdate, State.gen, State.param, State.timeS]

@[simp] theorem State.startLiveHold_frame (s : State) :
    s.startLiveHold.now = s.now ∧ s.startLiveHold.port = s.port ∧ s.startLiveHold.ntu = s.ntu ∧
    s.startLiveHold.store = s.store ∧ s.startLiveHold.slots = s.slots ∧
    s.startLiveHold.stations = s.stations ∧ s.startLiveHold.link = s.link ∧
    s.startLiveHold.bus = s.bus ∧ s.startLiveHold.blu = s.blu ∧ s.startLiveHold.gsq = s.gsq ∧
    s.startLiveHold.shu = s.shu ∧ s.startLiveHold.rsq = s.rsq ∧ s.startLiveHold.lines = s.lines ∧
    s.startLiveHold.params = s.params ∧ s.startLiveHold.mail = s.mail ∧
    s.startLiveHold.freeCount = s.freeCount ∧ s.startLiveHold.pending = s.pending ∧
    (∀ p0, s.startLiveHold.param p0 = s.param p0) ∧ (∀ i0, s.startLiveHold.gen i0 = s.gen i0) ∧
    s.startLiveHold.timeS = s.timeS ∧
    (∀ i0 : SlotIx, s.startLiveHold.slots[i0.val].gen = s.slots[i0.val].gen) := by
  simp [State.startLiveHold, State.gen, State.param, State.timeS]

/-- What an accepted edge keeps. -/
theorem edgeAccepted_keeps {β : Type} (P : State → β) (h1 : ∀ f (s : State), P (s.modBus f) = P s)
    (h2 : ∀ k d (s : State), P (s.setDeadline k d) = P s) (h3 : ∀ s : State, P s.startLiveHold = P s)
    (h4 : ∀ a b (s : State), P (s.frequencyUpdate a b) = P s) (t : Time) (s : State) :
    P (s.edgeAccepted t) = P s := by
  unfold State.edgeAccepted
  dsimp only
  split
  · rw [h4, h3, h1, h2, h1]
  · rw [h3, h1, h2, h1]

@[simp] theorem State.edgeAccepted_frame (t : Time) (s : State) :
    (s.edgeAccepted t).now = s.now ∧ (s.edgeAccepted t).port = s.port ∧
    (s.edgeAccepted t).store = s.store ∧ (s.edgeAccepted t).slots = s.slots ∧
    (s.edgeAccepted t).stations = s.stations ∧ (s.edgeAccepted t).link = s.link ∧
    (s.edgeAccepted t).gsq = s.gsq ∧ (s.edgeAccepted t).shu = s.shu ∧ (s.edgeAccepted t).rsq = s.rsq ∧
    (s.edgeAccepted t).lines = s.lines ∧ (s.edgeAccepted t).params = s.params ∧
    (s.edgeAccepted t).freeCount = s.freeCount ∧ (s.edgeAccepted t).pending = s.pending ∧
    (∀ p0, (s.edgeAccepted t).param p0 = s.param p0) ∧ (∀ i0, (s.edgeAccepted t).gen i0 = s.gen i0) ∧
    (s.edgeAccepted t).timeS = s.timeS ∧
    (∀ i0 : SlotIx, (s.edgeAccepted t).slots[i0.val].gen = s.slots[i0.val].gen) := by
  exact ⟨edgeAccepted_keeps (fun s => s.now) (by simp) (by simp) (by simp) (by simp) t s,
    edgeAccepted_keeps (fun s => s.port) (by simp) (by simp) (by simp) (by simp) t s,
    edgeAccepted_keeps (fun s => s.store) (by simp) (by simp) (by simp) (by simp) t s,
    edgeAccepted_keeps (fun s => s.slots) (by simp) (by simp) (by simp) (by simp) t s,
    edgeAccepted_keeps (fun s => s.stations) (by simp) (by simp) (by simp) (by simp) t s,
    edgeAccepted_keeps (fun s => s.link) (by simp) (by simp) (by simp) (by simp) t s,
    edgeAccepted_keeps (fun s => s.gsq) (by simp) (by simp) (by simp) (by simp) t s,
    edgeAccepted_keeps (fun s => s.shu) (by simp) (by simp) (by simp) (by simp) t s,
    edgeAccepted_keeps (fun s => s.rsq) (by simp) (by simp) (by simp) (by simp) t s,
    edgeAccepted_keeps (fun s => s.lines) (by simp) (by simp) (by simp) (by simp) t s,
    edgeAccepted_keeps (fun s => s.params) (by simp) (by simp) (by simp) (by simp) t s,
    edgeAccepted_keeps (fun s => s.freeCount) (by simp) (by simp) (by simp) (by simp) t s,
    edgeAccepted_keeps (fun s => s.pending) (by simp) (by simp) (by simp) (by simp) t s,
    fun q => edgeAccepted_keeps (fun s => s.param q) (by simp [State.param]) (by simp [State.param]) (by simp [State.param]) (by simp [State.param]) t s,
    fun q => edgeAccepted_keeps (fun s => s.gen q) (by simp [State.gen]) (by simp [State.gen]) (by simp [State.gen]) (by simp [State.gen]) t s,
    edgeAccepted_keeps (fun s => s.timeS) (by simp [State.timeS]) (by simp [State.timeS]) (by simp [State.timeS]) (by simp [State.timeS]) t s,
    fun q => edgeAccepted_keeps (fun s => s.slots[q.val].gen) (by simp) (by simp) (by simp) (by simp) t s⟩

@[simp] theorem State.zeroCrossEdge_frame (t : Time) (s : State) :
    (s.zeroCrossEdge t).now = s.now ∧ (s.zeroCrossEdge t).port = s.port ∧
    (s.zeroCrossEdge t).store = s.store ∧ (s.zeroCrossEdge t).slots = s.slots ∧
    (s.zeroCrossEdge t).stations = s.stations ∧ (s.zeroCrossEdge t).link = s.link ∧
    (s.zeroCrossEdge t).gsq = s.gsq ∧ (s.zeroCrossEdge t).shu = s.shu ∧
    (s.zeroCrossEdge t).rsq = s.rsq ∧ (s.zeroCrossEdge t).lines = s.lines ∧
    (s.zeroCrossEdge t).params = s.params ∧ (s.zeroCrossEdge t).freeCount = s.freeCount ∧
    (s.zeroCrossEdge t).pending = s.pending ∧ (∀ p0, (s.zeroCrossEdge t).param p0 = s.param p0) ∧
    (∀ i0, (s.zeroCrossEdge t).gen i0 = s.gen i0) ∧ (s.zeroCrossEdge t).timeS = s.timeS ∧
    (∀ i0 : SlotIx, (s.zeroCrossEdge t).slots[i0.val].gen = s.slots[i0.val].gen) := by
  simp [State.zeroCrossEdge, State.gen, State.param, State.timeS]

@[simp] theorem State.cancelStages_frame (s : State) :
    s.cancelStages.now = s.now ∧ s.cancelStages.port = s.port ∧ s.cancelStages.ntu = s.ntu ∧
    s.cancelStages.store = s.store ∧ s.cancelStages.slots = s.slots ∧
    s.cancelStages.stations = s.stations ∧ s.cancelStages.link = s.link ∧ s.cancelStages.bus = s.bus ∧
    s.cancelStages.blu = s.blu ∧ s.cancelStages.gsq = s.gsq ∧ s.cancelStages.shu = s.shu ∧
    s.cancelStages.rsq = s.rsq ∧ s.cancelStages.lines = s.lines ∧ s.cancelStages.params = s.params ∧
    s.cancelStages.mail = s.mail ∧ s.cancelStages.freeCount = s.freeCount ∧
    s.cancelStages.pending = s.pending ∧ (∀ p0, s.cancelStages.param p0 = s.param p0) ∧
    (∀ i0, s.cancelStages.gen i0 = s.gen i0) ∧ s.cancelStages.timeS = s.timeS ∧
    (∀ i0 : SlotIx, s.cancelStages.slots[i0.val].gen = s.slots[i0.val].gen) := by
  simp [State.cancelStages, State.gen, State.param, State.timeS]

@[simp] theorem State.declareDark_frame (s : State) :
    s.declareDark.now = s.now ∧ s.declareDark.port = s.port ∧ s.declareDark.store = s.store ∧
    s.declareDark.slots = s.slots ∧ s.declareDark.stations = s.stations ∧ s.declareDark.link = s.link ∧
    s.declareDark.blu = s.blu ∧ s.declareDark.gsq = s.gsq ∧ s.declareDark.shu = s.shu ∧
    s.declareDark.rsq = s.rsq ∧ s.declareDark.lines = s.lines ∧ s.declareDark.params = s.params ∧
    s.declareDark.freeCount = s.freeCount ∧ s.declareDark.pending = s.pending ∧
    (∀ p0, s.declareDark.param p0 = s.param p0) ∧ (∀ i0, s.declareDark.gen i0 = s.gen i0) ∧
    s.declareDark.timeS = s.timeS ∧
    (∀ i0 : SlotIx, s.declareDark.slots[i0.val].gen = s.slots[i0.val].gen) := by
  simp [State.declareDark, State.gen, State.param, State.timeS]

@[simp] theorem State.declareLoss_frame (s : State) :
    s.declareLoss.now = s.now ∧ s.declareLoss.port = s.port ∧ s.declareLoss.store = s.store ∧
    s.declareLoss.slots = s.slots ∧ s.declareLoss.stations = s.stations ∧ s.declareLoss.link = s.link ∧
    s.declareLoss.blu = s.blu ∧ s.declareLoss.gsq = s.gsq ∧ s.declareLoss.shu = s.shu ∧
    s.declareLoss.rsq = s.rsq ∧ s.declareLoss.lines = s.lines ∧ s.declareLoss.params = s.params ∧
    s.declareLoss.mail = s.mail ∧ s.declareLoss.freeCount = s.freeCount ∧
    s.declareLoss.pending = s.pending ∧ (∀ p0, s.declareLoss.param p0 = s.param p0) ∧
    (∀ i0, s.declareLoss.gen i0 = s.gen i0) ∧ s.declareLoss.timeS = s.timeS ∧
    (∀ i0 : SlotIx, s.declareLoss.slots[i0.val].gen = s.slots[i0.val].gen) := by
  simp [State.declareLoss, State.gen, State.param, State.timeS]

@[simp] theorem State.darkTimerExpired_frame (s : State) :
    s.darkTimerExpired.now = s.now ∧ s.darkTimerExpired.port = s.port ∧
    s.darkTimerExpired.store = s.store ∧ s.darkTimerExpired.slots = s.slots ∧
    s.darkTimerExpired.stations = s.stations ∧ s.darkTimerExpired.link = s.link ∧
    s.darkTimerExpired.blu = s.blu ∧ s.darkTimerExpired.gsq = s.gsq ∧ s.darkTimerExpired.shu = s.shu ∧
    s.darkTimerExpired.rsq = s.rsq ∧ s.darkTimerExpired.lines = s.lines ∧
    s.darkTimerExpired.params = s.params ∧ s.darkTimerExpired.freeCount = s.freeCount ∧
    s.darkTimerExpired.pending = s.pending ∧ (∀ p0, s.darkTimerExpired.param p0 = s.param p0) ∧
    (∀ i0, s.darkTimerExpired.gen i0 = s.gen i0) ∧ s.darkTimerExpired.timeS = s.timeS ∧
    (∀ i0 : SlotIx, s.darkTimerExpired.slots[i0.val].gen = s.slots[i0.val].gen) := by
  simp [State.darkTimerExpired, State.gen, State.param, State.timeS]

@[simp] theorem State.declareLive_frame (s : State) :
    s.declareLive.now = s.now ∧ s.declareLive.port = s.port ∧ s.declareLive.store = s.store ∧
    s.declareLive.slots = s.slots ∧ s.declareLive.stations = s.stations ∧ s.declareLive.link = s.link ∧
    s.declareLive.blu = s.blu ∧ s.declareLive.gsq = s.gsq ∧ s.declareLive.shu = s.shu ∧
    s.declareLive.rsq = s.rsq ∧ s.declareLive.scu = s.scu ∧ s.declareLive.lines = s.lines ∧
    s.declareLive.params = s.params ∧ s.declareLive.freeCount = s.freeCount ∧
    s.declareLive.pending = s.pending ∧ (∀ p0, s.declareLive.param p0 = s.param p0) ∧
    (∀ i0, s.declareLive.gen i0 = s.gen i0) ∧ s.declareLive.timeS = s.timeS ∧
    (∀ i0 : SlotIx, s.declareLive.slots[i0.val].gen = s.slots[i0.val].gen) := by
  simp [State.declareLive, State.gen, State.param, State.timeS]

@[simp] theorem State.liveHoldExpired_frame (s : State) :
    s.liveHoldExpired.now = s.now ∧ s.liveHoldExpired.port = s.port ∧
    s.liveHoldExpired.store = s.store ∧ s.liveHoldExpired.slots = s.slots ∧
    s.liveHoldExpired.stations = s.stations ∧ s.liveHoldExpired.link = s.link ∧
    s.liveHoldExpired.blu = s.blu ∧ s.liveHoldExpired.gsq = s.gsq ∧ s.liveHoldExpired.shu = s.shu ∧
    s.liveHoldExpired.rsq = s.rsq ∧ s.liveHoldExpired.lines = s.lines ∧
    s.liveHoldExpired.params = s.params ∧ s.liveHoldExpired.freeCount = s.freeCount ∧
    s.liveHoldExpired.pending = s.pending ∧ (∀ p0, s.liveHoldExpired.param p0 = s.param p0) ∧
    (∀ i0, s.liveHoldExpired.gen i0 = s.gen i0) ∧ s.liveHoldExpired.timeS = s.timeS ∧
    (∀ i0 : SlotIx, s.liveHoldExpired.slots[i0.val].gen = s.slots[i0.val].gen) := by
  simp [State.liveHoldExpired, State.gen, State.param, State.timeS]

@[simp] theorem State.bmnBreaker_frame (s : State) :
    s.bmnBreaker.now = s.now ∧ s.bmnBreaker.port = s.port ∧ s.bmnBreaker.store = s.store ∧
    s.bmnBreaker.slots = s.slots ∧ s.bmnBreaker.stations = s.stations ∧ s.bmnBreaker.link = s.link ∧
    s.bmnBreaker.blu = s.blu ∧ s.bmnBreaker.gsq = s.gsq ∧ s.bmnBreaker.shu = s.shu ∧
    s.bmnBreaker.rsq = s.rsq ∧ s.bmnBreaker.lines = s.lines ∧ s.bmnBreaker.params = s.params ∧
    s.bmnBreaker.freeCount = s.freeCount ∧ s.bmnBreaker.pending = s.pending ∧
    (∀ p0, s.bmnBreaker.param p0 = s.param p0) ∧ (∀ i0, s.bmnBreaker.gen i0 = s.gen i0) ∧
    s.bmnBreaker.timeS = s.timeS ∧
    (∀ i0 : SlotIx, s.bmnBreaker.slots[i0.val].gen = s.slots[i0.val].gen) := by
  simp [State.bmnBreaker, State.gen, State.param, State.timeS]

@[simp] theorem State.crossed_frame (l : LineIx) (stamp : Time) (s : State) :
    (s.crossed l stamp).now = s.now ∧ (s.crossed l stamp).port = s.port ∧
    (s.crossed l stamp).store = s.store ∧ (s.crossed l stamp).slots = s.slots ∧
    (s.crossed l stamp).stations = s.stations ∧ (s.crossed l stamp).link = s.link ∧
    (s.crossed l stamp).gsq = s.gsq ∧ (s.crossed l stamp).shu = s.shu ∧
    (s.crossed l stamp).rsq = s.rsq ∧ (s.crossed l stamp).params = s.params ∧
    (s.crossed l stamp).freeCount = s.freeCount ∧ (s.crossed l stamp).pending = s.pending ∧
    (∀ p0, (s.crossed l stamp).param p0 = s.param p0) ∧ (∀ i0, (s.crossed l stamp).gen i0 = s.gen i0) ∧
    (s.crossed l stamp).timeS = s.timeS ∧
    (∀ i0 : SlotIx, (s.crossed l stamp).slots[i0.val].gen = s.slots[i0.val].gen) := by
  simp [State.crossed, State.gen, State.param, State.timeS]

@[simp] theorem State.zeroCrossPin_frame (l : LineIx) (high : Bool) (s : State) :
    (s.zeroCrossPin l high).now = s.now ∧ (s.zeroCrossPin l high).port = s.port ∧
    (s.zeroCrossPin l high).store = s.store ∧ (s.zeroCrossPin l high).slots = s.slots ∧
    (s.zeroCrossPin l high).stations = s.stations ∧ (s.zeroCrossPin l high).link = s.link ∧
    (s.zeroCrossPin l high).gsq = s.gsq ∧ (s.zeroCrossPin l high).shu = s.shu ∧
    (s.zeroCrossPin l high).rsq = s.rsq ∧ (s.zeroCrossPin l high).params = s.params ∧
    (s.zeroCrossPin l high).freeCount = s.freeCount ∧ (s.zeroCrossPin l high).pending = s.pending ∧
    (∀ p0, (s.zeroCrossPin l high).param p0 = s.param p0) ∧
    (∀ i0, (s.zeroCrossPin l high).gen i0 = s.gen i0) ∧ (s.zeroCrossPin l high).timeS = s.timeS ∧
    (∀ i0 : SlotIx, (s.zeroCrossPin l high).slots[i0.val].gen = s.slots[i0.val].gen) := by
  simp [State.zeroCrossPin, State.gen, State.param, State.timeS]

@[simp] theorem State.holdEnds_frame (l : LineIx) (h : FilterHold) (s : State) :
    (s.holdEnds l h).now = s.now ∧ (s.holdEnds l h).port = s.port ∧ (s.holdEnds l h).store = s.store ∧
    (s.holdEnds l h).slots = s.slots ∧ (s.holdEnds l h).stations = s.stations ∧
    (s.holdEnds l h).link = s.link ∧ (s.holdEnds l h).gsq = s.gsq ∧ (s.holdEnds l h).shu = s.shu ∧
    (s.holdEnds l h).rsq = s.rsq ∧ (s.holdEnds l h).params = s.params ∧
    (s.holdEnds l h).freeCount = s.freeCount ∧ (s.holdEnds l h).pending = s.pending ∧
    (∀ p0, (s.holdEnds l h).param p0 = s.param p0) ∧ (∀ i0, (s.holdEnds l h).gen i0 = s.gen i0) ∧
    (s.holdEnds l h).timeS = s.timeS ∧
    (∀ i0 : SlotIx, (s.holdEnds l h).slots[i0.val].gen = s.slots[i0.val].gen) := by
  simp [State.holdEnds, State.gen, State.param, State.timeS]

@[simp] theorem State.pinTakes_frame (l : LineIx) (high : Bool) (s : State) :
    (s.pinTakes l high).now = s.now ∧ (s.pinTakes l high).port = s.port ∧
    (s.pinTakes l high).store = s.store ∧ (s.pinTakes l high).slots = s.slots ∧
    (s.pinTakes l high).stations = s.stations ∧ (s.pinTakes l high).link = s.link ∧
    (s.pinTakes l high).gsq = s.gsq ∧ (s.pinTakes l high).shu = s.shu ∧
    (s.pinTakes l high).rsq = s.rsq ∧ (s.pinTakes l high).params = s.params ∧
    (s.pinTakes l high).freeCount = s.freeCount ∧ (s.pinTakes l high).pending = s.pending ∧
    (∀ p0, (s.pinTakes l high).param p0 = s.param p0) ∧ (∀ i0, (s.pinTakes l high).gen i0 = s.gen i0) ∧
    (s.pinTakes l high).timeS = s.timeS ∧
    (∀ i0 : SlotIx, (s.pinTakes l high).slots[i0.val].gen = s.slots[i0.val].gen) := by
  simp [State.pinTakes, State.gen, State.param, State.timeS]

@[simp] theorem State.runPast_frame (l : LineIx) (target : Nat) (s : State) :
    (s.runPast l target).port = s.port ∧ (s.runPast l target).store = s.store ∧
    (s.runPast l target).slots = s.slots ∧ (s.runPast l target).stations = s.stations ∧
    (s.runPast l target).link = s.link ∧ (s.runPast l target).gsq = s.gsq ∧
    (s.runPast l target).shu = s.shu ∧ (s.runPast l target).rsq = s.rsq ∧
    (s.runPast l target).params = s.params ∧ (s.runPast l target).freeCount = s.freeCount ∧
    (s.runPast l target).pending = s.pending ∧ (∀ p0, (s.runPast l target).param p0 = s.param p0) ∧
    (∀ i0, (s.runPast l target).gen i0 = s.gen i0) ∧
    (∀ i0 : SlotIx, (s.runPast l target).slots[i0.val].gen = s.slots[i0.val].gen) := by
  unfold State.runPast
  split <;> simp [State.gen, State.param]

@[simp] theorem State.pinChange_frame (after : Nat) (l : LineIx) (high : Bool) (s : State) :
    (s.pinChange after l high).port = s.port ∧ (s.pinChange after l high).store = s.store ∧
    (s.pinChange after l high).slots = s.slots ∧ (s.pinChange after l high).stations = s.stations ∧
    (s.pinChange after l high).link = s.link ∧ (s.pinChange after l high).gsq = s.gsq ∧
    (s.pinChange after l high).shu = s.shu ∧ (s.pinChange after l high).rsq = s.rsq ∧
    (s.pinChange after l high).params = s.params ∧ (s.pinChange after l high).freeCount = s.freeCount ∧
    (s.pinChange after l high).pending = s.pending ∧
    (∀ p0, (s.pinChange after l high).param p0 = s.param p0) ∧
    (∀ i0, (s.pinChange after l high).gen i0 = s.gen i0) ∧
    (∀ i0 : SlotIx, (s.pinChange after l high).slots[i0.val].gen = s.slots[i0.val].gen) := by
  simp [State.pinChange, State.gen, State.param]

@[simp] theorem State.holdExpired_frame (l : LineIx) (s : State) :
    (s.holdExpired l).port = s.port ∧ (s.holdExpired l).store = s.store ∧
    (s.holdExpired l).slots = s.slots ∧ (s.holdExpired l).stations = s.stations ∧
    (s.holdExpired l).link = s.link ∧ (s.holdExpired l).gsq = s.gsq ∧ (s.holdExpired l).shu = s.shu ∧
    (s.holdExpired l).rsq = s.rsq ∧ (s.holdExpired l).params = s.params ∧
    (s.holdExpired l).freeCount = s.freeCount ∧ (s.holdExpired l).pending = s.pending ∧
    (∀ p0, (s.holdExpired l).param p0 = s.param p0) ∧ (∀ i0, (s.holdExpired l).gen i0 = s.gen i0) ∧
    (∀ i0 : SlotIx, (s.holdExpired l).slots[i0.val].gen = s.slots[i0.val].gen) := by
  unfold State.holdExpired
  split <;> simp [State.gen, State.param]

end Sys2Proof.Machine
end

