-- ==== Sys2Proof/Laws/FrameField.lean ====
section
/-! SUPPORT. What the field transactions (Machine/Field.lean) leave unchanged: for each operation, the fields of the state that it keeps, as
simp lemmas, so that no later proof unfolds it for a field it does not touch. -/

namespace Sys2Proof.Machine

@[simp] theorem State.takeEntry_frame (i : SlotIx) (e : ReportEntry) (s : State) :
    (s.takeEntry i e).now = s.now ∧ (s.takeEntry i e).port = s.port ∧
    (s.takeEntry i e).store = s.store ∧ (s.takeEntry i e).stations = s.stations ∧
    (s.takeEntry i e).bus = s.bus ∧ (s.takeEntry i e).rsq = s.rsq ∧
    (s.takeEntry i e).params = s.params ∧ (s.takeEntry i e).freeCount = s.freeCount ∧
    (s.takeEntry i e).pending = s.pending ∧ (∀ p0, (s.takeEntry i e).param p0 = s.param p0) ∧
    (s.takeEntry i e).timeS = s.timeS := by
  and_intros <;> (try intro q) <;> first
    | rfl
    | (simp [State.takeEntry, State.param, State.timeS]; done)
    | (unfold State.takeEntry; dsimp only; repeat' (first | rfl | (simp [State.param, State.timeS]; done) | split))

@[simp] theorem State.reportUnit_frame (address unit : Nat) (e : ReportEntry) (s : State) :
    (s.reportUnit address unit e).now = s.now ∧ (s.reportUnit address unit e).port = s.port ∧
    (s.reportUnit address unit e).store = s.store ∧
    (s.reportUnit address unit e).stations = s.stations ∧ (s.reportUnit address unit e).bus = s.bus ∧
    (s.reportUnit address unit e).rsq = s.rsq ∧ (s.reportUnit address unit e).params = s.params ∧
    (s.reportUnit address unit e).freeCount = s.freeCount ∧
    (s.reportUnit address unit e).pending = s.pending ∧
    (∀ p0, (s.reportUnit address unit e).param p0 = s.param p0) ∧
    (s.reportUnit address unit e).timeS = s.timeS := by
  unfold State.reportUnit
  split <;> simp [State.param, State.timeS]

@[simp] theorem State.reportEntries_frame (address u : Nat) (l : List ReportEntry) (s : State) :
    (s.reportEntries address u l).now = s.now ∧ (s.reportEntries address u l).port = s.port ∧
    (s.reportEntries address u l).store = s.store ∧
    (s.reportEntries address u l).stations = s.stations ∧ (s.reportEntries address u l).bus = s.bus ∧
    (s.reportEntries address u l).rsq = s.rsq ∧ (s.reportEntries address u l).params = s.params ∧
    (s.reportEntries address u l).freeCount = s.freeCount ∧
    (s.reportEntries address u l).pending = s.pending ∧
    (∀ p0, (s.reportEntries address u l).param p0 = s.param p0) ∧
    (s.reportEntries address u l).timeS = s.timeS := by
  induction l generalizing u s with
  | nil => simp [State.reportEntries]
  | cons x l ih =>
    unfold State.reportEntries
    simp_all

@[simp] theorem State.setpointOutcome_frame (i : SlotIx) (ack : Option Nat) (s : State) :
    (s.setpointOutcome i ack).now = s.now ∧ (s.setpointOutcome i ack).port = s.port ∧
    (s.setpointOutcome i ack).store = s.store ∧ (s.setpointOutcome i ack).stations = s.stations ∧
    (s.setpointOutcome i ack).bus = s.bus ∧ (s.setpointOutcome i ack).rsq = s.rsq ∧
    (s.setpointOutcome i ack).params = s.params ∧ (s.setpointOutcome i ack).mail = s.mail ∧
    (s.setpointOutcome i ack).freeCount = s.freeCount ∧ (s.setpointOutcome i ack).pending = s.pending ∧
    (∀ p0, (s.setpointOutcome i ack).param p0 = s.param p0) ∧ (s.setpointOutcome i ack).timeS = s.timeS := by
  unfold State.setpointOutcome
  split <;> simp [State.param, State.timeS]

@[simp] theorem State.outcome_frame (t : Transaction) (reply : Option Reply) (s : State) :
    (s.outcome t reply).now = s.now ∧ (s.outcome t reply).port = s.port ∧
    (s.outcome t reply).store = s.store ∧ (s.outcome t reply).stations = s.stations ∧
    (s.outcome t reply).bus = s.bus ∧ (s.outcome t reply).rsq = s.rsq ∧
    (s.outcome t reply).params = s.params ∧ (s.outcome t reply).freeCount = s.freeCount ∧
    (s.outcome t reply).pending = s.pending ∧ (∀ p0, (s.outcome t reply).param p0 = s.param p0) ∧
    (s.outcome t reply).timeS = s.timeS := by
  unfold State.outcome
  split <;> simp [State.param, State.timeS]

@[simp] theorem State.freeRetiring_frame (address : Nat) (s : State) :
    (s.freeRetiring address).now = s.now ∧ (s.freeRetiring address).port = s.port ∧
    (s.freeRetiring address).store = s.store ∧ (s.freeRetiring address).stations = s.stations ∧
    (s.freeRetiring address).bus = s.bus ∧ (s.freeRetiring address).rsq = s.rsq ∧
    (s.freeRetiring address).params = s.params ∧ (s.freeRetiring address).mail = s.mail ∧
    (s.freeRetiring address).freeCount = s.freeCount ∧ (s.freeRetiring address).pending = s.pending ∧
    (∀ p0, (s.freeRetiring address).param p0 = s.param p0) ∧ (s.freeRetiring address).timeS = s.timeS := by
  simp [State.freeRetiring, State.param, State.timeS]

@[simp] theorem State.credit_frame (address : Nat) (answered : Bool) (s : State) :
    (s.credit address answered).now = s.now ∧ (s.credit address answered).port = s.port ∧
    (s.credit address answered).store = s.store ∧ (s.credit address answered).bus = s.bus ∧
    (s.credit address answered).rsq = s.rsq ∧ (s.credit address answered).params = s.params ∧
    (s.credit address answered).mail = s.mail ∧ (s.credit address answered).freeCount = s.freeCount ∧
    (s.credit address answered).pending = s.pending ∧
    (∀ p0, (s.credit address answered).param p0 = s.param p0) ∧
    (s.credit address answered).timeS = s.timeS := by
  unfold State.credit
  split <;> simp [State.param, State.timeS]

@[simp] theorem State.modLink_frame (f : FieldLink → FieldLink) (s : State) :
    (s.modLink f).now = s.now ∧ (s.modLink f).port = s.port ∧ (s.modLink f).ntu = s.ntu ∧
    (s.modLink f).store = s.store ∧ (s.modLink f).slots = s.slots ∧
    (s.modLink f).stations = s.stations ∧ (s.modLink f).bus = s.bus ∧ (s.modLink f).blu = s.blu ∧
    (s.modLink f).gsq = s.gsq ∧ (s.modLink f).shu = s.shu ∧ (s.modLink f).rsq = s.rsq ∧
    (s.modLink f).scu = s.scu ∧ (s.modLink f).lines = s.lines ∧ (s.modLink f).params = s.params ∧
    (s.modLink f).mail = s.mail ∧ (s.modLink f).freeCount = s.freeCount ∧
    (s.modLink f).pending = s.pending ∧ (∀ p0, (s.modLink f).param p0 = s.param p0) ∧
    (∀ i0, (s.modLink f).gen i0 = s.gen i0) ∧ (s.modLink f).timeS = s.timeS ∧
    (∀ i0 : SlotIx, (s.modLink f).slots[i0.val].gen = s.slots[i0.val].gen) := by
  simp [State.modLink, State.gen, State.param, State.timeS]

@[simp] theorem State.endTransaction_frame (t : Transaction) (reply : Option Reply) (s : State) :
    (s.endTransaction t reply).now = s.now ∧ (s.endTransaction t reply).port = s.port ∧
    (s.endTransaction t reply).store = s.store ∧ (s.endTransaction t reply).bus = s.bus ∧
    (s.endTransaction t reply).rsq = s.rsq ∧ (s.endTransaction t reply).params = s.params ∧
    (s.endTransaction t reply).freeCount = s.freeCount ∧
    (s.endTransaction t reply).pending = s.pending ∧
    (∀ p0, (s.endTransaction t reply).param p0 = s.param p0) ∧
    (s.endTransaction t reply).timeS = s.timeS := by
  simp [State.endTransaction, State.param, State.timeS]

@[simp] theorem State.sendRetry_frame (t : Transaction) (s : State) :
    (s.sendRetry t).now = s.now ∧ (s.sendRetry t).port = s.port ∧ (s.sendRetry t).ntu = s.ntu ∧
    (s.sendRetry t).store = s.store ∧ (s.sendRetry t).slots = s.slots ∧
    (s.sendRetry t).stations = s.stations ∧ (s.sendRetry t).bus = s.bus ∧ (s.sendRetry t).blu = s.blu ∧
    (s.sendRetry t).gsq = s.gsq ∧ (s.sendRetry t).shu = s.shu ∧ (s.sendRetry t).rsq = s.rsq ∧
    (s.sendRetry t).scu = s.scu ∧ (s.sendRetry t).lines = s.lines ∧ (s.sendRetry t).params = s.params ∧
    (s.sendRetry t).mail = s.mail ∧ (s.sendRetry t).freeCount = s.freeCount ∧
    (s.sendRetry t).pending = s.pending ∧ (∀ p0, (s.sendRetry t).param p0 = s.param p0) ∧
    (∀ i0, (s.sendRetry t).gen i0 = s.gen i0) ∧ (s.sendRetry t).timeS = s.timeS ∧
    (∀ i0 : SlotIx, (s.sendRetry t).slots[i0.val].gen = s.slots[i0.val].gen) := by
  simp [State.sendRetry, State.gen, State.param, State.timeS]

@[simp] theorem State.attemptFails_frame (t : Transaction) (s : State) :
    (s.attemptFails t).now = s.now ∧ (s.attemptFails t).port = s.port ∧
    (s.attemptFails t).store = s.store ∧ (s.attemptFails t).bus = s.bus ∧
    (s.attemptFails t).rsq = s.rsq ∧ (s.attemptFails t).params = s.params ∧
    (s.attemptFails t).freeCount = s.freeCount ∧ (s.attemptFails t).pending = s.pending ∧
    (∀ p0, (s.attemptFails t).param p0 = s.param p0) ∧ (s.attemptFails t).timeS = s.timeS := by
  simp [State.attemptFails, State.param, State.timeS]

@[simp] theorem State.frameEnded_frame (s : State) :
    s.frameEnded.now = s.now ∧ s.frameEnded.port = s.port ∧ s.frameEnded.store = s.store ∧
    s.frameEnded.bus = s.bus ∧ s.frameEnded.rsq = s.rsq ∧ s.frameEnded.params = s.params ∧
    s.frameEnded.freeCount = s.freeCount ∧ s.frameEnded.pending = s.pending ∧
    (∀ p0, s.frameEnded.param p0 = s.param p0) ∧ s.frameEnded.timeS = s.timeS := by
  unfold State.frameEnded
  split <;> simp [State.param, State.timeS]

@[simp] theorem State.frameSent_frame (s : State) :
    s.frameSent.port = s.port ∧ s.frameSent.ntu = s.ntu ∧ s.frameSent.store = s.store ∧
    s.frameSent.slots = s.slots ∧ s.frameSent.stations = s.stations ∧ s.frameSent.bus = s.bus ∧
    s.frameSent.blu = s.blu ∧ s.frameSent.gsq = s.gsq ∧ s.frameSent.shu = s.shu ∧
    s.frameSent.rsq = s.rsq ∧ s.frameSent.lines = s.lines ∧ s.frameSent.params = s.params ∧
    s.frameSent.mail = s.mail ∧ s.frameSent.freeCount = s.freeCount ∧ s.frameSent.pending = s.pending ∧
    (∀ p0, s.frameSent.param p0 = s.param p0) ∧ (∀ i0, s.frameSent.gen i0 = s.gen i0) ∧
    (∀ i0 : SlotIx, s.frameSent.slots[i0.val].gen = s.slots[i0.val].gen) := by
  unfold State.frameSent
  split <;> simp [State.gen, State.param]

@[simp] theorem State.allowanceOver_frame (s : State) :
    s.allowanceOver.port = s.port ∧ s.allowanceOver.store = s.store ∧ s.allowanceOver.bus = s.bus ∧
    s.allowanceOver.rsq = s.rsq ∧ s.allowanceOver.params = s.params ∧
    s.allowanceOver.freeCount = s.freeCount ∧ s.allowanceOver.pending = s.pending ∧
    (∀ p0, s.allowanceOver.param p0 = s.param p0) := by
  unfold State.allowanceOver
  split <;> simp [State.param]

@[simp] theorem State.gapOver_frame (s : State) :
    s.gapOver.port = s.port ∧ s.gapOver.ntu = s.ntu ∧ s.gapOver.store = s.store ∧
    s.gapOver.bus = s.bus ∧ s.gapOver.blu = s.blu ∧ s.gapOver.gsq = s.gsq ∧ s.gapOver.shu = s.shu ∧
    s.gapOver.rsq = s.rsq ∧ s.gapOver.lines = s.lines ∧ s.gapOver.params = s.params ∧
    s.gapOver.mail = s.mail ∧ s.gapOver.freeCount = s.freeCount ∧ s.gapOver.pending = s.pending ∧
    (∀ p0, s.gapOver.param p0 = s.param p0) ∧ (∀ i0, s.gapOver.gen i0 = s.gen i0) ∧
    (∀ i0 : SlotIx, s.gapOver.slots[i0.val].gen = s.slots[i0.val].gen) := by
  unfold State.gapOver
  split <;> simp [State.gen, State.param]

@[simp] theorem State.frameReceived_frame (frame : List Byte) (s : State) :
    (s.frameReceived frame).port = s.port ∧
    (s.frameReceived frame).store = s.store ∧ (s.frameReceived frame).bus = s.bus ∧
    (s.frameReceived frame).rsq = s.rsq ∧ (s.frameReceived frame).params = s.params ∧
    (s.frameReceived frame).freeCount = s.freeCount ∧ (s.frameReceived frame).pending = s.pending ∧
    (∀ p0, (s.frameReceived frame).param p0 = s.param p0) := by
  and_intros <;> (try intro q) <;> first
    | rfl
    | (simp [State.frameReceived, State.param]; done)
    | (unfold State.frameReceived; dsimp only; repeat' (first | rfl | (simp [State.param]; done) | split))

@[simp] theorem State.silence_frame (s : State) :
    s.silence.port = s.port ∧ s.silence.store = s.store ∧ s.silence.bus = s.bus ∧
    s.silence.rsq = s.rsq ∧ s.silence.params = s.params ∧ s.silence.freeCount = s.freeCount ∧
    s.silence.pending = s.pending ∧ (∀ p0, s.silence.param p0 = s.param p0) := by
  unfold State.silence
  split <;> simp [State.param]

@[simp] theorem State.byteArrives_frame (s : State) :
    s.byteArrives.port = s.port ∧ s.byteArrives.store = s.store ∧ s.byteArrives.bus = s.bus ∧
    s.byteArrives.rsq = s.rsq ∧ s.byteArrives.params = s.params ∧ s.byteArrives.freeCount = s.freeCount ∧
    s.byteArrives.pending = s.pending ∧ (∀ p0, s.byteArrives.param p0 = s.param p0) := by
  unfold State.byteArrives
  dsimp only
  split <;> split <;> simp [State.param]

@[simp] theorem State.agePass_frame (s : State) :
    s.agePass.now = s.now ∧ s.agePass.port = s.port ∧ s.agePass.ntu = s.ntu ∧
    s.agePass.store = s.store ∧ s.agePass.stations = s.stations ∧ s.agePass.link = s.link ∧
    s.agePass.bus = s.bus ∧ s.agePass.blu = s.blu ∧ s.agePass.gsq = s.gsq ∧ s.agePass.shu = s.shu ∧
    s.agePass.rsq = s.rsq ∧ s.agePass.scu = s.scu ∧ s.agePass.lines = s.lines ∧
    s.agePass.params = s.params ∧ s.agePass.mail = s.mail ∧ s.agePass.freeCount = s.freeCount ∧
    s.agePass.pending = s.pending ∧ (∀ p0, s.agePass.param p0 = s.param p0) ∧
    (∀ i0, s.agePass.gen i0 = s.gen i0) ∧ s.agePass.timeS = s.timeS ∧
    (∀ i0 : SlotIx, s.agePass.slots[i0.val].gen = s.slots[i0.val].gen) := by
  simp [State.agePass, State.gen, State.param, State.timeS]

@[simp] theorem State.markDue_frame (d : DirIx) (s : State) :
    (s.markDue d).now = s.now ∧ (s.markDue d).port = s.port ∧ (s.markDue d).store = s.store ∧
    (s.markDue d).slots = s.slots ∧ (s.markDue d).link = s.link ∧ (s.markDue d).bus = s.bus ∧
    (s.markDue d).blu = s.blu ∧ (s.markDue d).gsq = s.gsq ∧ (s.markDue d).shu = s.shu ∧
    (s.markDue d).rsq = s.rsq ∧ (s.markDue d).scu = s.scu ∧ (s.markDue d).lines = s.lines ∧
    (s.markDue d).params = s.params ∧ (s.markDue d).mail = s.mail ∧
    (s.markDue d).freeCount = s.freeCount ∧ (s.markDue d).pending = s.pending ∧
    (∀ p0, (s.markDue d).param p0 = s.param p0) ∧ (∀ i0, (s.markDue d).gen i0 = s.gen i0) ∧
    (s.markDue d).timeS = s.timeS ∧
    (∀ i0 : SlotIx, (s.markDue d).slots[i0.val].gen = s.slots[i0.val].gen) := by
  unfold State.markDue
  split <;> simp [State.gen, State.param, State.timeS]

@[simp] theorem State.pollCycleExpired_frame (s : State) :
    s.pollCycleExpired.now = s.now ∧ s.pollCycleExpired.port = s.port ∧
    s.pollCycleExpired.store = s.store ∧ s.pollCycleExpired.bus = s.bus ∧
    s.pollCycleExpired.blu = s.blu ∧ s.pollCycleExpired.gsq = s.gsq ∧ s.pollCycleExpired.shu = s.shu ∧
    s.pollCycleExpired.rsq = s.rsq ∧ s.pollCycleExpired.scu = s.scu ∧
    s.pollCycleExpired.lines = s.lines ∧ s.pollCycleExpired.params = s.params ∧
    s.pollCycleExpired.mail = s.mail ∧ s.pollCycleExpired.freeCount = s.freeCount ∧
    s.pollCycleExpired.pending = s.pending ∧ (∀ p0, s.pollCycleExpired.param p0 = s.param p0) ∧
    (∀ i0, s.pollCycleExpired.gen i0 = s.gen i0) ∧ s.pollCycleExpired.timeS = s.timeS ∧
    (∀ i0 : SlotIx, s.pollCycleExpired.slots[i0.val].gen = s.slots[i0.val].gen) := by
  simp [State.pollCycleExpired, State.gen, State.param, State.timeS]

@[simp] theorem State.stationAddRequest_frame (address cls units access allowance gap : Nat) (s : State) :
    (s.stationAddRequest address cls units access allowance gap).now = s.now ∧
    (s.stationAddRequest address cls units access allowance gap).ntu = s.ntu ∧
    (s.stationAddRequest address cls units access allowance gap).store = s.store ∧
    (s.stationAddRequest address cls units access allowance gap).slots = s.slots ∧
    (s.stationAddRequest address cls units access allowance gap).link = s.link ∧
    (s.stationAddRequest address cls units access allowance gap).bus = s.bus ∧
    (s.stationAddRequest address cls units access allowance gap).blu = s.blu ∧
    (s.stationAddRequest address cls units access allowance gap).gsq = s.gsq ∧
    (s.stationAddRequest address cls units access allowance gap).shu = s.shu ∧
    (s.stationAddRequest address cls units access allowance gap).rsq = s.rsq ∧
    (s.stationAddRequest address cls units access allowance gap).scu = s.scu ∧
    (s.stationAddRequest address cls units access allowance gap).lines = s.lines ∧
    (s.stationAddRequest address cls units access allowance gap).params = s.params ∧
    (s.stationAddRequest address cls units access allowance gap).mail = s.mail ∧
    (s.stationAddRequest address cls units access allowance gap).pending = s.pending ∧
    (∀ p0, (s.stationAddRequest address cls units access allowance gap).param p0 = s.param p0) ∧
    (∀ i0, (s.stationAddRequest address cls units access allowance gap).gen i0 = s.gen i0) ∧
    (s.stationAddRequest address cls units access allowance gap).timeS = s.timeS ∧
    (∀ i0 : SlotIx, (s.stationAddRequest address cls units access allowance gap).slots[i0.val].gen = s.slots[i0.val].gen) := by
  unfold State.stationAddRequest
  (repeat' split) <;> simp [State.gen, State.param, State.timeS]

@[simp] theorem State.stationAmendRequest_frame (address : Nat) (changes : List (Nat × Nat)) (s : State) :
    (s.stationAmendRequest address changes).now = s.now ∧
    (s.stationAmendRequest address changes).ntu = s.ntu ∧
    (s.stationAmendRequest address changes).store = s.store ∧
    (s.stationAmendRequest address changes).slots = s.slots ∧
    (s.stationAmendRequest address changes).link = s.link ∧
    (s.stationAmendRequest address changes).bus = s.bus ∧
    (s.stationAmendRequest address changes).blu = s.blu ∧
    (s.stationAmendRequest address changes).gsq = s.gsq ∧
    (s.stationAmendRequest address changes).shu = s.shu ∧
    (s.stationAmendRequest address changes).rsq = s.rsq ∧
    (s.stationAmendRequest address changes).scu = s.scu ∧
    (s.stationAmendRequest address changes).lines = s.lines ∧
    (s.stationAmendRequest address changes).params = s.params ∧
    (s.stationAmendRequest address changes).mail = s.mail ∧
    (s.stationAmendRequest address changes).pending = s.pending ∧
    (∀ p0, (s.stationAmendRequest address changes).param p0 = s.param p0) ∧
    (∀ i0, (s.stationAmendRequest address changes).gen i0 = s.gen i0) ∧
    (s.stationAmendRequest address changes).timeS = s.timeS ∧
    (∀ i0 : SlotIx, (s.stationAmendRequest address changes).slots[i0.val].gen = s.slots[i0.val].gen) := by
  unfold State.stationAmendRequest
  split <;> simp [State.gen, State.param, State.timeS]

@[simp] theorem State.stationDropRequest_frame (address : Nat) (s : State) :
    (s.stationDropRequest address).now = s.now ∧ (s.stationDropRequest address).ntu = s.ntu ∧
    (s.stationDropRequest address).store = s.store ∧ (s.stationDropRequest address).slots = s.slots ∧
    (s.stationDropRequest address).link = s.link ∧ (s.stationDropRequest address).bus = s.bus ∧
    (s.stationDropRequest address).blu = s.blu ∧ (s.stationDropRequest address).gsq = s.gsq ∧
    (s.stationDropRequest address).shu = s.shu ∧ (s.stationDropRequest address).rsq = s.rsq ∧
    (s.stationDropRequest address).scu = s.scu ∧ (s.stationDropRequest address).lines = s.lines ∧
    (s.stationDropRequest address).params = s.params ∧ (s.stationDropRequest address).mail = s.mail ∧
    (s.stationDropRequest address).pending = s.pending ∧
    (∀ p0, (s.stationDropRequest address).param p0 = s.param p0) ∧
    (∀ i0, (s.stationDropRequest address).gen i0 = s.gen i0) ∧
    (s.stationDropRequest address).timeS = s.timeS ∧
    (∀ i0 : SlotIx, (s.stationDropRequest address).slots[i0.val].gen = s.slots[i0.val].gen) := by
  unfold State.stationDropRequest
  split <;> simp [State.gen, State.param, State.timeS]

@[simp] theorem State.stationQueryRequest_frame (address index : Nat) (s : State) :
    (s.stationQueryRequest address index).now = s.now ∧
    (s.stationQueryRequest address index).ntu = s.ntu ∧
    (s.stationQueryRequest address index).store = s.store ∧
    (s.stationQueryRequest address index).slots = s.slots ∧
    (s.stationQueryRequest address index).stations = s.stations ∧
    (s.stationQueryRequest address index).link = s.link ∧
    (s.stationQueryRequest address index).bus = s.bus ∧
    (s.stationQueryRequest address index).blu = s.blu ∧
    (s.stationQueryRequest address index).gsq = s.gsq ∧
    (s.stationQueryRequest address index).shu = s.shu ∧
    (s.stationQueryRequest address index).rsq = s.rsq ∧
    (s.stationQueryRequest address index).scu = s.scu ∧
    (s.stationQueryRequest address index).lines = s.lines ∧
    (s.stationQueryRequest address index).params = s.params ∧
    (s.stationQueryRequest address index).mail = s.mail ∧
    (s.stationQueryRequest address index).pending = s.pending ∧
    (∀ p0, (s.stationQueryRequest address index).param p0 = s.param p0) ∧
    (∀ i0, (s.stationQueryRequest address index).gen i0 = s.gen i0) ∧
    (s.stationQueryRequest address index).timeS = s.timeS ∧
    (∀ i0 : SlotIx, (s.stationQueryRequest address index).slots[i0.val].gen = s.slots[i0.val].gen) := by
  unfold State.stationQueryRequest
  (repeat' split) <;> simp [State.gen, State.param, State.timeS]

end Sys2Proof.Machine
end

