-- ==== Sys2Proof/Laws/FrameRecords.lean ====
section
/-! SUPPORT. What the record requests (Machine/Records.lean) leave unchanged: for each operation, the fields of the state that it keeps, as
simp lemmas, so that no later proof unfolds it for a field it does not touch. -/

namespace Sys2Proof.Machine

@[simp] theorem State.settleNew_frame (i : SlotIx) (s : State) :
    (s.settleNew i).now = s.now ∧ (s.settleNew i).port = s.port ∧ (s.settleNew i).ntu = s.ntu ∧
    (s.settleNew i).store = s.store ∧ (s.settleNew i).stations = s.stations ∧
    (s.settleNew i).link = s.link ∧ (s.settleNew i).bus = s.bus ∧ (s.settleNew i).blu = s.blu ∧
    (s.settleNew i).gsq = s.gsq ∧ (s.settleNew i).shu = s.shu ∧ (s.settleNew i).rsq = s.rsq ∧
    (s.settleNew i).params = s.params ∧ (s.settleNew i).mail = s.mail ∧
    (s.settleNew i).freeCount = s.freeCount ∧ (s.settleNew i).pending = s.pending ∧
    (∀ p0, (s.settleNew i).param p0 = s.param p0) ∧ (∀ i0, (s.settleNew i).gen i0 = s.gen i0) ∧
    (s.settleNew i).timeS = s.timeS ∧
    (∀ i0 : SlotIx, (s.settleNew i).slots[i0.val].gen = s.slots[i0.val].gen) := by
  unfold State.settleNew
  split <;> simp [State.gen, State.param, State.timeS]

@[simp] theorem State.createRecord_frame (i : SlotIx) (k : Kind) (fields : List (Nat × Nat)) (s : State) :
    (s.createRecord i k fields).now = s.now ∧ (s.createRecord i k fields).port = s.port ∧
    (s.createRecord i k fields).ntu = s.ntu ∧ (s.createRecord i k fields).store = s.store ∧
    (s.createRecord i k fields).stations = s.stations ∧ (s.createRecord i k fields).link = s.link ∧
    (s.createRecord i k fields).bus = s.bus ∧ (s.createRecord i k fields).blu = s.blu ∧
    (s.createRecord i k fields).gsq = s.gsq ∧ (s.createRecord i k fields).shu = s.shu ∧
    (s.createRecord i k fields).rsq = s.rsq ∧ (s.createRecord i k fields).params = s.params ∧
    (s.createRecord i k fields).mail = s.mail ∧ (s.createRecord i k fields).freeCount = s.freeCount ∧
    (s.createRecord i k fields).pending = s.pending ∧
    (∀ p0, (s.createRecord i k fields).param p0 = s.param p0) ∧
    (∀ i0, (s.createRecord i k fields).gen i0 = s.gen i0) ∧
    (s.createRecord i k fields).timeS = s.timeS ∧
    (∀ i0 : SlotIx, (s.createRecord i k fields).slots[i0.val].gen = s.slots[i0.val].gen) := by
  simp [State.createRecord, State.gen, State.param, State.timeS]

@[simp] theorem State.registerRequest_frame (kind : Nat) (fields : List (Nat × Nat)) (s : State) :
    (s.registerRequest kind fields).now = s.now ∧ (s.registerRequest kind fields).ntu = s.ntu ∧
    (s.registerRequest kind fields).store = s.store ∧
    (s.registerRequest kind fields).stations = s.stations ∧
    (s.registerRequest kind fields).link = s.link ∧ (s.registerRequest kind fields).bus = s.bus ∧
    (s.registerRequest kind fields).blu = s.blu ∧ (s.registerRequest kind fields).gsq = s.gsq ∧
    (s.registerRequest kind fields).shu = s.shu ∧ (s.registerRequest kind fields).rsq = s.rsq ∧
    (s.registerRequest kind fields).params = s.params ∧ (s.registerRequest kind fields).mail = s.mail ∧
    (s.registerRequest kind fields).pending = s.pending ∧
    (∀ p0, (s.registerRequest kind fields).param p0 = s.param p0) ∧
    (∀ i0, (s.registerRequest kind fields).gen i0 = s.gen i0) ∧
    (s.registerRequest kind fields).timeS = s.timeS ∧
    (∀ i0 : SlotIx, (s.registerRequest kind fields).slots[i0.val].gen = s.slots[i0.val].gen) := by
  and_intros <;> (try intro q) <;> first
    | rfl
    | (simp [State.registerRequest, State.gen, State.param, State.timeS]; done)
    | (unfold State.registerRequest; dsimp only; repeat' (first | rfl | (simp [State.gen, State.param, State.timeS]; done) | split))

@[simp] theorem State.disarm_frame (i : SlotIx) (f : Feeder) (s : State) :
    (s.disarm i f).now = s.now ∧ (s.disarm i f).port = s.port ∧ (s.disarm i f).ntu = s.ntu ∧
    (s.disarm i f).store = s.store ∧ (s.disarm i f).slots = s.slots ∧
    (s.disarm i f).stations = s.stations ∧ (s.disarm i f).link = s.link ∧ (s.disarm i f).bus = s.bus ∧
    (s.disarm i f).blu = s.blu ∧ (s.disarm i f).gsq = s.gsq ∧ (s.disarm i f).rsq = s.rsq ∧
    (s.disarm i f).scu = s.scu ∧ (s.disarm i f).lines = s.lines ∧ (s.disarm i f).params = s.params ∧
    (s.disarm i f).mail = s.mail ∧ (s.disarm i f).freeCount = s.freeCount ∧
    (s.disarm i f).pending = s.pending ∧ (∀ p0, (s.disarm i f).param p0 = s.param p0) ∧
    (∀ i0, (s.disarm i f).gen i0 = s.gen i0) ∧ (s.disarm i f).timeS = s.timeS ∧
    (∀ i0 : SlotIx, (s.disarm i f).slots[i0.val].gen = s.slots[i0.val].gen) := by
  simp [State.disarm, State.gen, State.param, State.timeS]

@[simp] theorem State.statusAmended_frame (i : SlotIx) (old new : Feeder) (s : State) :
    (s.statusAmended i old new).now = s.now ∧ (s.statusAmended i old new).port = s.port ∧
    (s.statusAmended i old new).ntu = s.ntu ∧ (s.statusAmended i old new).store = s.store ∧
    (s.statusAmended i old new).stations = s.stations ∧ (s.statusAmended i old new).link = s.link ∧
    (s.statusAmended i old new).bus = s.bus ∧ (s.statusAmended i old new).blu = s.blu ∧
    (s.statusAmended i old new).gsq = s.gsq ∧ (s.statusAmended i old new).shu = s.shu ∧
    (s.statusAmended i old new).rsq = s.rsq ∧ (s.statusAmended i old new).scu = s.scu ∧
    (s.statusAmended i old new).lines = s.lines ∧ (s.statusAmended i old new).params = s.params ∧
    (s.statusAmended i old new).freeCount = s.freeCount ∧
    (s.statusAmended i old new).pending = s.pending ∧
    (∀ p0, (s.statusAmended i old new).param p0 = s.param p0) ∧
    (∀ i0, (s.statusAmended i old new).gen i0 = s.gen i0) ∧
    (s.statusAmended i old new).timeS = s.timeS ∧
    (∀ i0 : SlotIx, (s.statusAmended i old new).slots[i0.val].gen = s.slots[i0.val].gen) := by
  unfold State.statusAmended
  (repeat' split) <;> simp [State.gen, State.param, State.timeS]

@[simp] theorem State.feederAmended_frame (i : SlotIx) (old new : Feeder) (s : State) :
    (s.feederAmended i old new).now = s.now ∧ (s.feederAmended i old new).port = s.port ∧
    (s.feederAmended i old new).ntu = s.ntu ∧ (s.feederAmended i old new).store = s.store ∧
    (s.feederAmended i old new).stations = s.stations ∧ (s.feederAmended i old new).link = s.link ∧
    (s.feederAmended i old new).bus = s.bus ∧ (s.feederAmended i old new).blu = s.blu ∧
    (s.feederAmended i old new).gsq = s.gsq ∧ (s.feederAmended i old new).rsq = s.rsq ∧
    (s.feederAmended i old new).scu = s.scu ∧ (s.feederAmended i old new).lines = s.lines ∧
    (s.feederAmended i old new).params = s.params ∧
    (s.feederAmended i old new).freeCount = s.freeCount ∧
    (s.feederAmended i old new).pending = s.pending ∧
    (∀ p0, (s.feederAmended i old new).param p0 = s.param p0) ∧
    (∀ i0, (s.feederAmended i old new).gen i0 = s.gen i0) ∧
    (s.feederAmended i old new).timeS = s.timeS ∧
    (∀ i0 : SlotIx, (s.feederAmended i old new).slots[i0.val].gen = s.slots[i0.val].gen) := by
  simp [State.feederAmended, State.gen, State.param, State.timeS]

@[simp] theorem State.movePulse_frame (r r' : Record) (pulse : Option Time) (s : State) :
    (s.movePulse r r' pulse).now = s.now ∧ (s.movePulse r r' pulse).port = s.port ∧
    (s.movePulse r r' pulse).ntu = s.ntu ∧ (s.movePulse r r' pulse).store = s.store ∧
    (s.movePulse r r' pulse).slots = s.slots ∧ (s.movePulse r r' pulse).stations = s.stations ∧
    (s.movePulse r r' pulse).link = s.link ∧ (s.movePulse r r' pulse).bus = s.bus ∧
    (s.movePulse r r' pulse).blu = s.blu ∧ (s.movePulse r r' pulse).gsq = s.gsq ∧
    (s.movePulse r r' pulse).shu = s.shu ∧ (s.movePulse r r' pulse).rsq = s.rsq ∧
    (s.movePulse r r' pulse).scu = s.scu ∧ (s.movePulse r r' pulse).params = s.params ∧
    (s.movePulse r r' pulse).mail = s.mail ∧ (s.movePulse r r' pulse).freeCount = s.freeCount ∧
    (s.movePulse r r' pulse).pending = s.pending ∧
    (∀ p0, (s.movePulse r r' pulse).param p0 = s.param p0) ∧
    (∀ i0, (s.movePulse r r' pulse).gen i0 = s.gen i0) ∧ (s.movePulse r r' pulse).timeS = s.timeS ∧
    (∀ i0 : SlotIx, (s.movePulse r r' pulse).slots[i0.val].gen = s.slots[i0.val].gen) := by
  unfold State.movePulse
  split
  · split <;> simp [State.gen, State.param, State.timeS]
  · simp

@[simp] theorem State.amendRecord_frame (i : SlotIx) (r : Record) (fields : List (Nat × Nat)) (s : State) :
    (s.amendRecord i r fields).now = s.now ∧ (s.amendRecord i r fields).port = s.port ∧
    (s.amendRecord i r fields).ntu = s.ntu ∧ (s.amendRecord i r fields).store = s.store ∧
    (s.amendRecord i r fields).stations = s.stations ∧ (s.amendRecord i r fields).bus = s.bus ∧
    (s.amendRecord i r fields).blu = s.blu ∧ (s.amendRecord i r fields).gsq = s.gsq ∧
    (s.amendRecord i r fields).rsq = s.rsq ∧ (s.amendRecord i r fields).scu = s.scu ∧
    (s.amendRecord i r fields).params = s.params ∧ (s.amendRecord i r fields).freeCount = s.freeCount ∧
    (s.amendRecord i r fields).pending = s.pending ∧
    (∀ p0, (s.amendRecord i r fields).param p0 = s.param p0) ∧
    (∀ i0, (s.amendRecord i r fields).gen i0 = s.gen i0) ∧ (s.amendRecord i r fields).timeS = s.timeS ∧
    (∀ i0 : SlotIx, (s.amendRecord i r fields).slots[i0.val].gen = s.slots[i0.val].gen) := by
  and_intros <;> (try intro q) <;> first
    | rfl
    | (simp [State.amendRecord, State.gen, State.param, State.timeS]; done)
    | (unfold State.amendRecord; dsimp only; repeat' (first | rfl | (simp [State.gen, State.param, State.timeS]; done) | split))

@[simp] theorem State.amendRequest_frame (h : Handle) (fields : List (Nat × Nat)) (s : State) :
    (s.amendRequest h fields).now = s.now ∧ (s.amendRequest h fields).ntu = s.ntu ∧
    (s.amendRequest h fields).store = s.store ∧ (s.amendRequest h fields).stations = s.stations ∧
    (s.amendRequest h fields).bus = s.bus ∧ (s.amendRequest h fields).blu = s.blu ∧
    (s.amendRequest h fields).gsq = s.gsq ∧ (s.amendRequest h fields).rsq = s.rsq ∧
    (s.amendRequest h fields).scu = s.scu ∧ (s.amendRequest h fields).params = s.params ∧
    (s.amendRequest h fields).pending = s.pending ∧
    (∀ p0, (s.amendRequest h fields).param p0 = s.param p0) ∧
    (∀ i0, (s.amendRequest h fields).gen i0 = s.gen i0) ∧ (s.amendRequest h fields).timeS = s.timeS ∧
    (∀ i0 : SlotIx, (s.amendRequest h fields).slots[i0.val].gen = s.slots[i0.val].gen) := by
  and_intros <;> (try intro q) <;> first
    | rfl
    | (simp [State.amendRequest, State.gen, State.param, State.timeS]; done)
    | (unfold State.amendRequest; dsimp only; repeat' (first | rfl | (simp [State.gen, State.param, State.timeS]; done) | split))

@[simp] theorem State.queryRequest_frame (h : Handle) (s : State) :
    (s.queryRequest h).now = s.now ∧ (s.queryRequest h).ntu = s.ntu ∧
    (s.queryRequest h).store = s.store ∧ (s.queryRequest h).slots = s.slots ∧
    (s.queryRequest h).stations = s.stations ∧ (s.queryRequest h).link = s.link ∧
    (s.queryRequest h).bus = s.bus ∧ (s.queryRequest h).blu = s.blu ∧ (s.queryRequest h).gsq = s.gsq ∧
    (s.queryRequest h).shu = s.shu ∧ (s.queryRequest h).rsq = s.rsq ∧ (s.queryRequest h).scu = s.scu ∧
    (s.queryRequest h).lines = s.lines ∧ (s.queryRequest h).params = s.params ∧
    (s.queryRequest h).mail = s.mail ∧ (s.queryRequest h).pending = s.pending ∧
    (∀ p0, (s.queryRequest h).param p0 = s.param p0) ∧ (∀ i0, (s.queryRequest h).gen i0 = s.gen i0) ∧
    (s.queryRequest h).timeS = s.timeS ∧
    (∀ i0 : SlotIx, (s.queryRequest h).slots[i0.val].gen = s.slots[i0.val].gen) := by
  unfold State.queryRequest
  (repeat' split) <;> simp [State.gen, State.param, State.timeS]

@[simp] theorem State.lookupRequest_frame (tag : Nat) (s : State) :
    (s.lookupRequest tag).now = s.now ∧ (s.lookupRequest tag).ntu = s.ntu ∧
    (s.lookupRequest tag).store = s.store ∧ (s.lookupRequest tag).slots = s.slots ∧
    (s.lookupRequest tag).stations = s.stations ∧ (s.lookupRequest tag).link = s.link ∧
    (s.lookupRequest tag).bus = s.bus ∧ (s.lookupRequest tag).blu = s.blu ∧
    (s.lookupRequest tag).gsq = s.gsq ∧ (s.lookupRequest tag).shu = s.shu ∧
    (s.lookupRequest tag).rsq = s.rsq ∧ (s.lookupRequest tag).scu = s.scu ∧
    (s.lookupRequest tag).lines = s.lines ∧ (s.lookupRequest tag).params = s.params ∧
    (s.lookupRequest tag).mail = s.mail ∧ (s.lookupRequest tag).pending = s.pending ∧
    (∀ p0, (s.lookupRequest tag).param p0 = s.param p0) ∧
    (∀ i0, (s.lookupRequest tag).gen i0 = s.gen i0) ∧ (s.lookupRequest tag).timeS = s.timeS ∧
    (∀ i0 : SlotIx, (s.lookupRequest tag).slots[i0.val].gen = s.slots[i0.val].gen) := by
  simp [State.lookupRequest, State.gen, State.param, State.timeS]

@[simp] theorem State.listRequest_frame (first kind : Nat) (s : State) :
    (s.listRequest first kind).now = s.now ∧ (s.listRequest first kind).ntu = s.ntu ∧
    (s.listRequest first kind).store = s.store ∧ (s.listRequest first kind).slots = s.slots ∧
    (s.listRequest first kind).stations = s.stations ∧ (s.listRequest first kind).link = s.link ∧
    (s.listRequest first kind).bus = s.bus ∧ (s.listRequest first kind).blu = s.blu ∧
    (s.listRequest first kind).gsq = s.gsq ∧ (s.listRequest first kind).shu = s.shu ∧
    (s.listRequest first kind).rsq = s.rsq ∧ (s.listRequest first kind).scu = s.scu ∧
    (s.listRequest first kind).lines = s.lines ∧ (s.listRequest first kind).params = s.params ∧
    (s.listRequest first kind).mail = s.mail ∧ (s.listRequest first kind).pending = s.pending ∧
    (∀ p0, (s.listRequest first kind).param p0 = s.param p0) ∧
    (∀ i0, (s.listRequest first kind).gen i0 = s.gen i0) ∧ (s.listRequest first kind).timeS = s.timeS ∧
    (∀ i0 : SlotIx, (s.listRequest first kind).slots[i0.val].gen = s.slots[i0.val].gen) := by
  unfold State.listRequest
  (repeat' split) <;> simp [State.gen, State.param, State.timeS]

@[simp] theorem State.beginRetire_frame (i : SlotIx) (s : State) :
    (s.beginRetire i).now = s.now ∧ (s.beginRetire i).port = s.port ∧ (s.beginRetire i).ntu = s.ntu ∧
    (s.beginRetire i).store = s.store ∧ (s.beginRetire i).stations = s.stations ∧
    (s.beginRetire i).link = s.link ∧ (s.beginRetire i).bus = s.bus ∧ (s.beginRetire i).blu = s.blu ∧
    (s.beginRetire i).gsq = s.gsq ∧ (s.beginRetire i).shu = s.shu ∧ (s.beginRetire i).rsq = s.rsq ∧
    (s.beginRetire i).scu = s.scu ∧ (s.beginRetire i).lines = s.lines ∧
    (s.beginRetire i).params = s.params ∧ (s.beginRetire i).mail = s.mail ∧
    (s.beginRetire i).freeCount = s.freeCount ∧ (s.beginRetire i).pending = s.pending ∧
    (∀ p0, (s.beginRetire i).param p0 = s.param p0) ∧ (∀ i0, (s.beginRetire i).gen i0 = s.gen i0) ∧
    (s.beginRetire i).timeS = s.timeS ∧
    (∀ i0 : SlotIx, (s.beginRetire i).slots[i0.val].gen = s.slots[i0.val].gen) := by
  simp [State.beginRetire, State.gen, State.param, State.timeS]

@[simp] theorem State.freedNow_frame (c : Instr) (i : SlotIx) (s : State) :
    (s.freedNow c i).now = s.now ∧ (s.freedNow c i).store = s.store ∧
    (s.freedNow c i).stations = s.stations ∧ (s.freedNow c i).bus = s.bus ∧
    (s.freedNow c i).rsq = s.rsq ∧ (s.freedNow c i).params = s.params ∧
    (s.freedNow c i).mail = s.mail ∧ (s.freedNow c i).pending = s.pending ∧
    (∀ p0, (s.freedNow c i).param p0 = s.param p0) ∧ (s.freedNow c i).timeS = s.timeS := by
  simp [State.freedNow, State.param, State.timeS]

@[simp] theorem State.retireGenset_frame (c : Instr) (i : SlotIx) (g : Genset) (s : State) :
    (s.retireGenset c i g).now = s.now ∧ (s.retireGenset c i g).store = s.store ∧
    (s.retireGenset c i g).bus = s.bus ∧ (s.retireGenset c i g).rsq = s.rsq ∧
    (s.retireGenset c i g).params = s.params ∧ (s.retireGenset c i g).pending = s.pending ∧
    (∀ p0, (s.retireGenset c i g).param p0 = s.param p0) ∧ (s.retireGenset c i g).timeS = s.timeS := by
  unfold State.retireGenset
  split <;> simp [State.param, State.timeS]

@[simp] theorem State.retirePv_frame (c : Instr) (i : SlotIx) (r : Record) (s : State) :
    (s.retirePv c i r).now = s.now ∧ (s.retirePv c i r).store = s.store ∧
    (s.retirePv c i r).bus = s.bus ∧ (s.retirePv c i r).rsq = s.rsq ∧
    (s.retirePv c i r).params = s.params ∧ (s.retirePv c i r).mail = s.mail ∧
    (s.retirePv c i r).pending = s.pending ∧ (∀ p0, (s.retirePv c i r).param p0 = s.param p0) ∧
    (s.retirePv c i r).timeS = s.timeS := by
  simp [State.retirePv, State.param, State.timeS]

@[simp] theorem State.retireFeeder_frame (c : Instr) (i : SlotIx) (f : Feeder) (s : State) :
    (s.retireFeeder c i f).now = s.now ∧ (s.retireFeeder c i f).store = s.store ∧
    (s.retireFeeder c i f).stations = s.stations ∧ (s.retireFeeder c i f).bus = s.bus ∧
    (s.retireFeeder c i f).rsq = s.rsq ∧ (s.retireFeeder c i f).params = s.params ∧
    (s.retireFeeder c i f).mail = s.mail ∧ (s.retireFeeder c i f).pending = s.pending ∧
    (∀ p0, (s.retireFeeder c i f).param p0 = s.param p0) ∧ (s.retireFeeder c i f).timeS = s.timeS := by
  unfold State.retireFeeder
  split <;> simp [State.param, State.timeS]

@[simp] theorem State.retireRequest_frame (h : Handle) (s : State) :
    (s.retireRequest h).now = s.now ∧ (s.retireRequest h).store = s.store ∧
    (s.retireRequest h).bus = s.bus ∧ (s.retireRequest h).rsq = s.rsq ∧
    (s.retireRequest h).params = s.params ∧ (s.retireRequest h).pending = s.pending ∧
    (∀ p0, (s.retireRequest h).param p0 = s.param p0) ∧ (s.retireRequest h).timeS = s.timeS := by
  unfold State.retireRequest
  (repeat' split) <;> simp [State.param, State.timeS]

end Sys2Proof.Machine
end

