-- ==== Sys2Proof/Laws/FrameStore.lean ====
section
/-! SUPPORT. What the stored settings (Machine/Store.lean) leave unchanged: for each operation, the fields of the state that it keeps, as
simp lemmas, so that no later proof unfolds it for a field it does not touch. -/

namespace Sys2Proof.Machine

@[simp] theorem State.saveRequest_frame (s : State) :
    s.saveRequest.now = s.now ∧ s.saveRequest.ntu = s.ntu ∧ s.saveRequest.slots = s.slots ∧
    s.saveRequest.stations = s.stations ∧ s.saveRequest.link = s.link ∧ s.saveRequest.bus = s.bus ∧
    s.saveRequest.blu = s.blu ∧ s.saveRequest.gsq = s.gsq ∧ s.saveRequest.shu = s.shu ∧
    s.saveRequest.rsq = s.rsq ∧ s.saveRequest.scu = s.scu ∧ s.saveRequest.lines = s.lines ∧
    s.saveRequest.params = s.params ∧ s.saveRequest.mail = s.mail ∧ s.saveRequest.pending = s.pending ∧
    (∀ p0, s.saveRequest.param p0 = s.param p0) ∧ (∀ i0, s.saveRequest.gen i0 = s.gen i0) ∧
    s.saveRequest.timeS = s.timeS ∧
    (∀ i0 : SlotIx, s.saveRequest.slots[i0.val].gen = s.slots[i0.val].gen) := by
  simp [State.saveRequest, State.gen, State.param, State.timeS]

@[simp] theorem State.saveDone_frame (s : State) :
    s.saveDone.now = s.now ∧ s.saveDone.port = s.port ∧ s.saveDone.slots = s.slots ∧
    s.saveDone.stations = s.stations ∧ s.saveDone.link = s.link ∧ s.saveDone.bus = s.bus ∧
    s.saveDone.blu = s.blu ∧ s.saveDone.gsq = s.gsq ∧ s.saveDone.shu = s.shu ∧ s.saveDone.rsq = s.rsq ∧
    s.saveDone.scu = s.scu ∧ s.saveDone.lines = s.lines ∧ s.saveDone.params = s.params ∧
    s.saveDone.mail = s.mail ∧ s.saveDone.freeCount = s.freeCount ∧ s.saveDone.pending = s.pending ∧
    (∀ p0, s.saveDone.param p0 = s.param p0) ∧ (∀ i0, s.saveDone.gen i0 = s.gen i0) ∧
    s.saveDone.timeS = s.timeS ∧ (∀ i0 : SlotIx, s.saveDone.slots[i0.val].gen = s.slots[i0.val].gen) := by
  unfold State.saveDone
  split <;> simp [State.gen, State.param, State.timeS]

end Sys2Proof.Machine
end

