-- ==== Sys2Proof/Laws/FrameHostPort.lean ====
section
/-! SUPPORT. What the host port (Machine/HostPort.lean) leave unchanged: for each operation, the fields of the state that it keeps, as
simp lemmas, so that no later proof unfolds it for a field it does not touch. -/

namespace Sys2Proof.Machine

@[simp] theorem State.shiftOut_frame (clocked : List Byte) (s : State) :
    (s.shiftOut clocked).now = s.now ∧ (s.shiftOut clocked).ntu = s.ntu ∧
    (s.shiftOut clocked).store = s.store ∧ (s.shiftOut clocked).slots = s.slots ∧
    (s.shiftOut clocked).stations = s.stations ∧ (s.shiftOut clocked).link = s.link ∧
    (s.shiftOut clocked).bus = s.bus ∧ (s.shiftOut clocked).blu = s.blu ∧
    (s.shiftOut clocked).gsq = s.gsq ∧ (s.shiftOut clocked).shu = s.shu ∧
    (s.shiftOut clocked).rsq = s.rsq ∧ (s.shiftOut clocked).scu = s.scu ∧
    (s.shiftOut clocked).lines = s.lines ∧ (s.shiftOut clocked).params = s.params ∧
    (s.shiftOut clocked).mail = s.mail ∧ (s.shiftOut clocked).freeCount = s.freeCount ∧
    (s.shiftOut clocked).pending = s.pending ∧ (∀ p0, (s.shiftOut clocked).param p0 = s.param p0) ∧
    (∀ i0, (s.shiftOut clocked).gen i0 = s.gen i0) ∧ (s.shiftOut clocked).timeS = s.timeS ∧
    (∀ i0 : SlotIx, (s.shiftOut clocked).slots[i0.val].gen = s.slots[i0.val].gen) := by
  simp [State.shiftOut, State.gen, State.param, State.timeS]

@[simp] theorem State.dropResponse_frame (s : State) :
    s.dropResponse.now = s.now ∧ s.dropResponse.ntu = s.ntu ∧ s.dropResponse.store = s.store ∧
    s.dropResponse.slots = s.slots ∧ s.dropResponse.stations = s.stations ∧
    s.dropResponse.link = s.link ∧ s.dropResponse.bus = s.bus ∧ s.dropResponse.blu = s.blu ∧
    s.dropResponse.gsq = s.gsq ∧ s.dropResponse.shu = s.shu ∧ s.dropResponse.rsq = s.rsq ∧
    s.dropResponse.scu = s.scu ∧ s.dropResponse.lines = s.lines ∧ s.dropResponse.params = s.params ∧
    s.dropResponse.mail = s.mail ∧ s.dropResponse.freeCount = s.freeCount ∧
    s.dropResponse.pending = s.pending ∧ (∀ p0, s.dropResponse.param p0 = s.param p0) ∧
    (∀ i0, s.dropResponse.gen i0 = s.gen i0) ∧ s.dropResponse.timeS = s.timeS ∧
    (∀ i0 : SlotIx, s.dropResponse.slots[i0.val].gen = s.slots[i0.val].gen) := by
  simp [State.dropResponse, State.gen, State.param, State.timeS]

@[simp] theorem State.refuseFrame_frame (status : Status) (kind : Option Nat) (s : State) :
    (s.refuseFrame status kind).now = s.now ∧ (s.refuseFrame status kind).ntu = s.ntu ∧
    (s.refuseFrame status kind).store = s.store ∧ (s.refuseFrame status kind).slots = s.slots ∧
    (s.refuseFrame status kind).stations = s.stations ∧ (s.refuseFrame status kind).link = s.link ∧
    (s.refuseFrame status kind).bus = s.bus ∧ (s.refuseFrame status kind).blu = s.blu ∧
    (s.refuseFrame status kind).gsq = s.gsq ∧ (s.refuseFrame status kind).shu = s.shu ∧
    (s.refuseFrame status kind).rsq = s.rsq ∧ (s.refuseFrame status kind).scu = s.scu ∧
    (s.refuseFrame status kind).lines = s.lines ∧ (s.refuseFrame status kind).params = s.params ∧
    (s.refuseFrame status kind).mail = s.mail ∧ (s.refuseFrame status kind).pending = s.pending ∧
    (∀ p0, (s.refuseFrame status kind).param p0 = s.param p0) ∧
    (∀ i0, (s.refuseFrame status kind).gen i0 = s.gen i0) ∧
    (s.refuseFrame status kind).timeS = s.timeS ∧
    (∀ i0 : SlotIx, (s.refuseFrame status kind).slots[i0.val].gen = s.slots[i0.val].gen) := by
  simp [State.refuseFrame, State.gen, State.param, State.timeS]

@[simp] theorem State.takeIncoming_frame (x : Incoming) (s : State) :
    (s.takeIncoming x).now = s.now ∧ (s.takeIncoming x).ntu = s.ntu ∧
    (s.takeIncoming x).store = s.store ∧ (s.takeIncoming x).slots = s.slots ∧
    (s.takeIncoming x).stations = s.stations ∧ (s.takeIncoming x).link = s.link ∧
    (s.takeIncoming x).bus = s.bus ∧ (s.takeIncoming x).blu = s.blu ∧ (s.takeIncoming x).gsq = s.gsq ∧
    (s.takeIncoming x).shu = s.shu ∧ (s.takeIncoming x).rsq = s.rsq ∧ (s.takeIncoming x).scu = s.scu ∧
    (s.takeIncoming x).lines = s.lines ∧ (s.takeIncoming x).params = s.params ∧
    (s.takeIncoming x).mail = s.mail ∧ (s.takeIncoming x).pending = s.pending ∧
    (∀ p0, (s.takeIncoming x).param p0 = s.param p0) ∧ (∀ i0, (s.takeIncoming x).gen i0 = s.gen i0) ∧
    (s.takeIncoming x).timeS = s.timeS ∧
    (∀ i0 : SlotIx, (s.takeIncoming x).slots[i0.val].gen = s.slots[i0.val].gen) := by
  unfold State.takeIncoming
  split <;> simp [State.gen, State.param, State.timeS]

@[simp] theorem State.transaction_frame (clocked : List Byte) (s : State) :
    (s.transaction clocked).now = s.now ∧ (s.transaction clocked).ntu = s.ntu ∧
    (s.transaction clocked).store = s.store ∧ (s.transaction clocked).slots = s.slots ∧
    (s.transaction clocked).stations = s.stations ∧ (s.transaction clocked).link = s.link ∧
    (s.transaction clocked).bus = s.bus ∧ (s.transaction clocked).blu = s.blu ∧
    (s.transaction clocked).gsq = s.gsq ∧ (s.transaction clocked).shu = s.shu ∧
    (s.transaction clocked).rsq = s.rsq ∧ (s.transaction clocked).scu = s.scu ∧
    (s.transaction clocked).lines = s.lines ∧ (s.transaction clocked).params = s.params ∧
    (s.transaction clocked).mail = s.mail ∧ (s.transaction clocked).pending = s.pending ∧
    (∀ p0, (s.transaction clocked).param p0 = s.param p0) ∧
    (∀ i0, (s.transaction clocked).gen i0 = s.gen i0) ∧ (s.transaction clocked).timeS = s.timeS ∧
    (∀ i0 : SlotIx, (s.transaction clocked).slots[i0.val].gen = s.slots[i0.val].gen) := by
  simp [State.transaction, State.gen, State.param, State.timeS]

@[simp] theorem State.writeNominal_frame (v : Nat) (s : State) :
    (s.writeNominal v).now = s.now ∧ (s.writeNominal v).port = s.port ∧
    (s.writeNominal v).ntu = s.ntu ∧ (s.writeNominal v).store = s.store ∧
    (s.writeNominal v).slots = s.slots ∧ (s.writeNominal v).stations = s.stations ∧
    (s.writeNominal v).link = s.link ∧ (s.writeNominal v).bus = s.bus ∧
    (s.writeNominal v).blu = s.blu ∧ (s.writeNominal v).gsq = s.gsq ∧ (s.writeNominal v).shu = s.shu ∧
    (s.writeNominal v).rsq = s.rsq ∧ (s.writeNominal v).scu = s.scu ∧
    (s.writeNominal v).lines = s.lines ∧ (s.writeNominal v).mail = s.mail ∧
    (s.writeNominal v).freeCount = s.freeCount ∧ (s.writeNominal v).pending = s.pending := by
  simp [State.writeNominal]

@[simp] theorem State.writePeriod_frame (p : Param) (k : DeadlineKey) (v : Nat) (s : State) :
    (s.writePeriod p k v).now = s.now ∧ (s.writePeriod p k v).port = s.port ∧
    (s.writePeriod p k v).ntu = s.ntu ∧ (s.writePeriod p k v).store = s.store ∧
    (s.writePeriod p k v).slots = s.slots ∧ (s.writePeriod p k v).stations = s.stations ∧
    (s.writePeriod p k v).link = s.link ∧ (s.writePeriod p k v).bus = s.bus ∧
    (s.writePeriod p k v).blu = s.blu ∧ (s.writePeriod p k v).gsq = s.gsq ∧
    (s.writePeriod p k v).shu = s.shu ∧ (s.writePeriod p k v).rsq = s.rsq ∧
    (s.writePeriod p k v).lines = s.lines ∧ (s.writePeriod p k v).mail = s.mail ∧
    (s.writePeriod p k v).freeCount = s.freeCount ∧ (s.writePeriod p k v).pending = s.pending ∧
    (∀ i0, (s.writePeriod p k v).gen i0 = s.gen i0) ∧ (s.writePeriod p k v).timeS = s.timeS ∧
    (∀ i0 : SlotIx, (s.writePeriod p k v).slots[i0.val].gen = s.slots[i0.val].gen) := by
  unfold State.writePeriod
  split <;> simp [State.gen, State.timeS]

@[simp] theorem State.writeStartLimit_frame (v : Nat) (s : State) :
    (s.writeStartLimit v).now = s.now ∧ (s.writeStartLimit v).port = s.port ∧
    (s.writeStartLimit v).store = s.store ∧ (s.writeStartLimit v).stations = s.stations ∧
    (s.writeStartLimit v).bus = s.bus ∧ (s.writeStartLimit v).rsq = s.rsq ∧
    (s.writeStartLimit v).freeCount = s.freeCount ∧ (s.writeStartLimit v).pending = s.pending ∧
    (s.writeStartLimit v).timeS = s.timeS := by
  and_intros <;> first
    | rfl
    | (simp [State.writeStartLimit, State.param, State.timeS]; done)
    | (unfold State.writeStartLimit; dsimp only; repeat' (first | rfl | (simp [State.param, State.timeS]; done) | split))

@[simp] theorem State.writeParam_frame (p : Param) (v : Nat) (s : State) :
    (s.writeParam p v).now = s.now ∧ (s.writeParam p v).port = s.port ∧
    (s.writeParam p v).store = s.store ∧ (s.writeParam p v).stations = s.stations ∧
    (s.writeParam p v).bus = s.bus ∧ (s.writeParam p v).rsq = s.rsq ∧
    (s.writeParam p v).freeCount = s.freeCount ∧ (s.writeParam p v).pending = s.pending ∧
    (s.writeParam p v).timeS = s.timeS := by
  unfold State.writeParam
  split <;> simp [State.timeS]

@[simp] theorem State.setParameterRequest_frame (identifier : Nat) (value : Int) (s : State) :
    (s.setParameterRequest identifier value).now = s.now ∧
    (s.setParameterRequest identifier value).store = s.store ∧
    (s.setParameterRequest identifier value).stations = s.stations ∧
    (s.setParameterRequest identifier value).bus = s.bus ∧
    (s.setParameterRequest identifier value).rsq = s.rsq ∧
    (s.setParameterRequest identifier value).pending = s.pending ∧
    (s.setParameterRequest identifier value).timeS = s.timeS := by
  unfold State.setParameterRequest
  split <;> simp [State.timeS]

@[simp] theorem State.getParameterRequest_frame (identifier : Nat) (s : State) :
    (s.getParameterRequest identifier).now = s.now ∧ (s.getParameterRequest identifier).ntu = s.ntu ∧
    (s.getParameterRequest identifier).store = s.store ∧
    (s.getParameterRequest identifier).slots = s.slots ∧
    (s.getParameterRequest identifier).stations = s.stations ∧
    (s.getParameterRequest identifier).link = s.link ∧ (s.getParameterRequest identifier).bus = s.bus ∧
    (s.getParameterRequest identifier).blu = s.blu ∧ (s.getParameterRequest identifier).gsq = s.gsq ∧
    (s.getParameterRequest identifier).shu = s.shu ∧ (s.getParameterRequest identifier).rsq = s.rsq ∧
    (s.getParameterRequest identifier).scu = s.scu ∧
    (s.getParameterRequest identifier).lines = s.lines ∧
    (s.getParameterRequest identifier).params = s.params ∧
    (s.getParameterRequest identifier).mail = s.mail ∧
    (s.getParameterRequest identifier).pending = s.pending ∧
    (∀ p0, (s.getParameterRequest identifier).param p0 = s.param p0) ∧
    (∀ i0, (s.getParameterRequest identifier).gen i0 = s.gen i0) ∧
    (s.getParameterRequest identifier).timeS = s.timeS ∧
    (∀ i0 : SlotIx, (s.getParameterRequest identifier).slots[i0.val].gen = s.slots[i0.val].gen) := by
  unfold State.getParameterRequest
  split <;> simp [State.gen, State.param, State.timeS]

@[simp] theorem State.lineConfigureRequest_frame (line function polarity : Nat) (filter : Option Nat) (s
    : State) :
    (s.lineConfigureRequest line function polarity filter).now = s.now ∧
    (s.lineConfigureRequest line function polarity filter).ntu = s.ntu ∧
    (s.lineConfigureRequest line function polarity filter).store = s.store ∧
    (s.lineConfigureRequest line function polarity filter).slots = s.slots ∧
    (s.lineConfigureRequest line function polarity filter).stations = s.stations ∧
    (s.lineConfigureRequest line function polarity filter).link = s.link ∧
    (s.lineConfigureRequest line function polarity filter).bus = s.bus ∧
    (s.lineConfigureRequest line function polarity filter).blu = s.blu ∧
    (s.lineConfigureRequest line function polarity filter).gsq = s.gsq ∧
    (s.lineConfigureRequest line function polarity filter).shu = s.shu ∧
    (s.lineConfigureRequest line function polarity filter).rsq = s.rsq ∧
    (s.lineConfigureRequest line function polarity filter).scu = s.scu ∧
    (s.lineConfigureRequest line function polarity filter).params = s.params ∧
    (s.lineConfigureRequest line function polarity filter).pending = s.pending ∧
    (∀ p0, (s.lineConfigureRequest line function polarity filter).param p0 = s.param p0) ∧
    (∀ i0, (s.lineConfigureRequest line function polarity filter).gen i0 = s.gen i0) ∧
    (s.lineConfigureRequest line function polarity filter).timeS = s.timeS ∧
    (∀ i0 : SlotIx, (s.lineConfigureRequest line function polarity filter).slots[i0.val].gen = s.slots[i0.val].gen) := by
  unfold State.lineConfigureRequest
  (repeat' split) <;> simp [State.gen, State.param, State.timeS]

@[simp] theorem State.lineQueryRequest_frame (line : Nat) (s : State) :
    (s.lineQueryRequest line).now = s.now ∧ (s.lineQueryRequest line).ntu = s.ntu ∧
    (s.lineQueryRequest line).store = s.store ∧ (s.lineQueryRequest line).slots = s.slots ∧
    (s.lineQueryRequest line).stations = s.stations ∧ (s.lineQueryRequest line).link = s.link ∧
    (s.lineQueryRequest line).bus = s.bus ∧ (s.lineQueryRequest line).blu = s.blu ∧
    (s.lineQueryRequest line).gsq = s.gsq ∧ (s.lineQueryRequest line).shu = s.shu ∧
    (s.lineQueryRequest line).rsq = s.rsq ∧ (s.lineQueryRequest line).scu = s.scu ∧
    (s.lineQueryRequest line).lines = s.lines ∧ (s.lineQueryRequest line).params = s.params ∧
    (s.lineQueryRequest line).mail = s.mail ∧ (s.lineQueryRequest line).pending = s.pending ∧
    (∀ p0, (s.lineQueryRequest line).param p0 = s.param p0) ∧
    (∀ i0, (s.lineQueryRequest line).gen i0 = s.gen i0) ∧ (s.lineQueryRequest line).timeS = s.timeS ∧
    (∀ i0 : SlotIx, (s.lineQueryRequest line).slots[i0.val].gen = s.slots[i0.val].gen) := by
  unfold State.lineQueryRequest
  split <;> simp [State.gen, State.param, State.timeS]

@[simp] theorem State.readNoticesRequest_frame (s : State) :
    s.readNoticesRequest.now = s.now ∧ s.readNoticesRequest.store = s.store ∧
    s.readNoticesRequest.slots = s.slots ∧ s.readNoticesRequest.stations = s.stations ∧
    s.readNoticesRequest.link = s.link ∧ s.readNoticesRequest.bus = s.bus ∧
    s.readNoticesRequest.blu = s.blu ∧ s.readNoticesRequest.gsq = s.gsq ∧
    s.readNoticesRequest.shu = s.shu ∧ s.readNoticesRequest.rsq = s.rsq ∧
    s.readNoticesRequest.scu = s.scu ∧ s.readNoticesRequest.lines = s.lines ∧
    s.readNoticesRequest.params = s.params ∧ s.readNoticesRequest.mail = s.mail ∧
    s.readNoticesRequest.pending = s.pending ∧ (∀ p0, s.readNoticesRequest.param p0 = s.param p0) ∧
    (∀ i0, s.readNoticesRequest.gen i0 = s.gen i0) ∧ s.readNoticesRequest.timeS = s.timeS ∧
    (∀ i0 : SlotIx, s.readNoticesRequest.slots[i0.val].gen = s.slots[i0.val].gen) := by
  simp [State.readNoticesRequest, State.gen, State.param, State.timeS]

@[simp] theorem State.setLevelsRequest_frame (pairs : List (Nat × Nat)) (s : State) :
    (s.setLevelsRequest pairs).now = s.now ∧ (s.setLevelsRequest pairs).store = s.store ∧
    (s.setLevelsRequest pairs).slots = s.slots ∧ (s.setLevelsRequest pairs).stations = s.stations ∧
    (s.setLevelsRequest pairs).link = s.link ∧ (s.setLevelsRequest pairs).bus = s.bus ∧
    (s.setLevelsRequest pairs).blu = s.blu ∧ (s.setLevelsRequest pairs).gsq = s.gsq ∧
    (s.setLevelsRequest pairs).shu = s.shu ∧ (s.setLevelsRequest pairs).rsq = s.rsq ∧
    (s.setLevelsRequest pairs).scu = s.scu ∧ (s.setLevelsRequest pairs).lines = s.lines ∧
    (s.setLevelsRequest pairs).params = s.params ∧ (s.setLevelsRequest pairs).mail = s.mail ∧
    (s.setLevelsRequest pairs).pending = s.pending ∧
    (∀ p0, (s.setLevelsRequest pairs).param p0 = s.param p0) ∧
    (∀ i0, (s.setLevelsRequest pairs).gen i0 = s.gen i0) ∧ (s.setLevelsRequest pairs).timeS = s.timeS ∧
    (∀ i0 : SlotIx, (s.setLevelsRequest pairs).slots[i0.val].gen = s.slots[i0.val].gen) := by
  simp [State.setLevelsRequest, State.gen, State.param, State.timeS]

end Sys2Proof.Machine
end

