-- ==== Sys2Proof/Laws/FrameReset.lean ====
section
/-! SUPPORT. What the resets (Machine/Reset.lean) leave unchanged: for each operation, the fields of the state that it keeps, as
simp lemmas, so that no later proof unfolds it for a field it does not touch. -/

namespace Sys2Proof.Machine

@[simp] theorem State.blocksReset_frame (warm : Bool) (m : Image) (s : State) :
    (s.blocksReset warm m).ntu = s.ntu ∧ (s.blocksReset warm m).store = s.store ∧
    (s.blocksReset warm m).freeCount = s.freeCount ∧ (s.blocksReset warm m).pending = s.pending := by
  simp [State.blocksReset]

@[simp] theorem State.resetDeadlines_frame (s : State) :
    s.resetDeadlines.now = s.now ∧ s.resetDeadlines.port = s.port ∧ s.resetDeadlines.ntu = s.ntu ∧
    s.resetDeadlines.store = s.store ∧ s.resetDeadlines.slots = s.slots ∧
    s.resetDeadlines.stations = s.stations ∧ s.resetDeadlines.link = s.link ∧
    s.resetDeadlines.bus = s.bus ∧ s.resetDeadlines.blu = s.blu ∧ s.resetDeadlines.gsq = s.gsq ∧
    s.resetDeadlines.shu = s.shu ∧ s.resetDeadlines.rsq = s.rsq ∧ s.resetDeadlines.lines = s.lines ∧
    s.resetDeadlines.params = s.params ∧ s.resetDeadlines.mail = s.mail ∧
    s.resetDeadlines.freeCount = s.freeCount ∧ s.resetDeadlines.pending = s.pending ∧
    (∀ p0, s.resetDeadlines.param p0 = s.param p0) ∧ (∀ i0, s.resetDeadlines.gen i0 = s.gen i0) ∧
    s.resetDeadlines.timeS = s.timeS ∧
    (∀ i0 : SlotIx, s.resetDeadlines.slots[i0.val].gen = s.slots[i0.val].gen) := by
  simp [State.resetDeadlines, State.gen, State.param, State.timeS]

@[simp] theorem State.derive_frame (s : State) :
    s.derive.now = s.now ∧ s.derive.port = s.port ∧ s.derive.ntu = s.ntu ∧ s.derive.store = s.store ∧
    s.derive.stations = s.stations ∧ s.derive.link = s.link ∧ s.derive.bus = s.bus ∧
    s.derive.blu = s.blu ∧ s.derive.gsq = s.gsq ∧ s.derive.shu = s.shu ∧ s.derive.rsq = s.rsq ∧
    s.derive.params = s.params ∧ s.derive.mail = s.mail ∧ s.derive.freeCount = s.freeCount ∧
    s.derive.pending = s.pending ∧ (∀ p0, s.derive.param p0 = s.param p0) ∧
    (∀ i0, s.derive.gen i0 = s.gen i0) ∧ s.derive.timeS = s.timeS ∧
    (∀ i0 : SlotIx, s.derive.slots[i0.val].gen = s.slots[i0.val].gen) := by
  simp [State.derive, State.gen, State.param, State.timeS]

@[simp] theorem State.resetNtu_frame (lost : Bool) (levels : Vector Nat 22) (s : State) :
    (s.resetNtu lost levels).now = s.now ∧ (s.resetNtu lost levels).port = s.port ∧
    (s.resetNtu lost levels).store = s.store ∧ (s.resetNtu lost levels).slots = s.slots ∧
    (s.resetNtu lost levels).stations = s.stations ∧ (s.resetNtu lost levels).link = s.link ∧
    (s.resetNtu lost levels).bus = s.bus ∧ (s.resetNtu lost levels).blu = s.blu ∧
    (s.resetNtu lost levels).gsq = s.gsq ∧ (s.resetNtu lost levels).shu = s.shu ∧
    (s.resetNtu lost levels).rsq = s.rsq ∧ (s.resetNtu lost levels).scu = s.scu ∧
    (s.resetNtu lost levels).lines = s.lines ∧ (s.resetNtu lost levels).params = s.params ∧
    (s.resetNtu lost levels).mail = s.mail ∧ (s.resetNtu lost levels).freeCount = s.freeCount ∧
    (s.resetNtu lost levels).pending = s.pending ∧
    (∀ p0, (s.resetNtu lost levels).param p0 = s.param p0) ∧
    (∀ i0, (s.resetNtu lost levels).gen i0 = s.gen i0) ∧ (s.resetNtu lost levels).timeS = s.timeS ∧
    (∀ i0 : SlotIx, (s.resetNtu lost levels).slots[i0.val].gen = s.slots[i0.val].gen) := by
  simp [State.resetNtu, State.gen, State.param, State.timeS]

@[simp] theorem State.dropSave_frame (s : State) :
    s.dropSave.now = s.now ∧ s.dropSave.port = s.port ∧ s.dropSave.ntu = s.ntu ∧
    s.dropSave.slots = s.slots ∧ s.dropSave.stations = s.stations ∧ s.dropSave.link = s.link ∧
    s.dropSave.bus = s.bus ∧ s.dropSave.blu = s.blu ∧ s.dropSave.gsq = s.gsq ∧ s.dropSave.shu = s.shu ∧
    s.dropSave.rsq = s.rsq ∧ s.dropSave.scu = s.scu ∧ s.dropSave.lines = s.lines ∧
    s.dropSave.params = s.params ∧ s.dropSave.mail = s.mail ∧ s.dropSave.freeCount = s.freeCount ∧
    s.dropSave.pending = s.pending ∧ (∀ p0, s.dropSave.param p0 = s.param p0) ∧
    (∀ i0, s.dropSave.gen i0 = s.gen i0) ∧ s.dropSave.timeS = s.timeS ∧
    (∀ i0 : SlotIx, s.dropSave.slots[i0.val].gen = s.slots[i0.val].gen) := by
  simp [State.dropSave, State.gen, State.param, State.timeS]

@[simp] theorem State.resetWith_frame (warm : Bool) (s : State) :
    (s.resetWith warm).freeCount = s.freeCount ∧ (s.resetWith warm).pending = s.pending := by
  simp [State.resetWith]

@[simp] theorem State.holdReset_frame (held : Bool) (s : State) :
    (s.holdReset held).now = s.now ∧ (s.holdReset held).ntu = s.ntu ∧
    (s.holdReset held).store = s.store ∧ (s.holdReset held).slots = s.slots ∧
    (s.holdReset held).stations = s.stations ∧ (s.holdReset held).link = s.link ∧
    (s.holdReset held).bus = s.bus ∧ (s.holdReset held).blu = s.blu ∧ (s.holdReset held).gsq = s.gsq ∧
    (s.holdReset held).shu = s.shu ∧ (s.holdReset held).rsq = s.rsq ∧ (s.holdReset held).scu = s.scu ∧
    (s.holdReset held).lines = s.lines ∧ (s.holdReset held).params = s.params ∧
    (s.holdReset held).mail = s.mail ∧ (s.holdReset held).freeCount = s.freeCount ∧
    (s.holdReset held).pending = s.pending ∧ (∀ p0, (s.holdReset held).param p0 = s.param p0) ∧
    (∀ i0, (s.holdReset held).gen i0 = s.gen i0) ∧ (s.holdReset held).timeS = s.timeS ∧
    (∀ i0 : SlotIx, (s.holdReset held).slots[i0.val].gen = s.slots[i0.val].gen) := by
  simp [State.holdReset, State.gen, State.param, State.timeS]

end Sys2Proof.Machine
end

