-- ==== Sys2Proof/Laws/FrameTick.lean ====
section
/-! SUPPORT. What the passing of time (Machine/Tick.lean) leave unchanged: for each operation, the fields of the state that it keeps, as
simp lemmas, so that no later proof unfolds it for a field it does not touch. -/

namespace Sys2Proof.Machine

@[simp] theorem State.timePasses_frame (s : State) :
    s.timePasses.port = s.port ∧ s.timePasses.ntu = s.ntu ∧ s.timePasses.store = s.store ∧
    s.timePasses.slots = s.slots ∧ s.timePasses.stations = s.stations ∧ s.timePasses.link = s.link ∧
    s.timePasses.bus = s.bus ∧ s.timePasses.blu = s.blu ∧ s.timePasses.gsq = s.gsq ∧
    s.timePasses.shu = s.shu ∧ s.timePasses.rsq = s.rsq ∧ s.timePasses.lines = s.lines ∧
    s.timePasses.params = s.params ∧ s.timePasses.mail = s.mail ∧
    s.timePasses.freeCount = s.freeCount ∧ s.timePasses.pending = s.pending ∧
    (∀ p0, s.timePasses.param p0 = s.param p0) ∧ (∀ i0, s.timePasses.gen i0 = s.gen i0) ∧
    (∀ i0 : SlotIx, s.timePasses.slots[i0.val].gen = s.slots[i0.val].gen) := by
  unfold State.timePasses
  split <;> simp [State.gen, State.param]

end Sys2Proof.Machine
end

