-- ==== Sys2Proof/Laws/Ops.lean ====
section
/-! SUPPORT. What each shared operation does: one lemma an operation, which says once everything that a
later proof needs of it, so that no proof unfolds it. -/

namespace Sys2Proof.Machine

/-! ### Parameters -/

/-- `Param.all` lists each parameter at its place in the store. -/
theorem Param.all_index (p : Param) : Param.all[p.index.val]? = some p := by
  cases p with
  | ufThreshold k | ufDelay k | ufHysteresis k | ufShare k | ufWindow k => revert k; decide
  | _ => rfl

/-- Two parameters of one place are one. -/
theorem Param.index_inj {p q : Param} (h : p.index = q.index) : p = q := by
  have a := Param.all_index p
  rw [h, Param.all_index q] at a
  exact (Option.some.inj a).symm

/-- The value of a parameter after a value is put in force. -/
@[simp] theorem State.param_setParam (p q : Param) (v : Nat) (s : State) :
    (s.setParam p v).param q = if p = q then v else s.param q := by
  unfold State.setParam State.param
  by_cases h : p = q
  · subst h; simp
  · have h' : p.index.val ≠ q.index.val := fun e => h (Param.index_inj (Fin.ext e))
    simp [h, h']

/-! ### Slots -/

/-- The slots after a record is put. -/
@[simp] theorem State.putRecord_slots (i : SlotIx) (r : Record) (s : State) :
    (s.putRecord i r).slots = s.slots.set i { s.slots[i] with record := some r } := rfl

/-- The record of a slot after a record is put. -/
@[simp] theorem State.record?_putRecord (i j : SlotIx) (r : Record) (s : State) :
    (s.putRecord i r).record? j = if i = j then some r else s.record? j := by
  unfold State.record? State.putRecord
  by_cases h : i = j
  · subst h; simp
  · have h' : i.val ≠ j.val := fun e => h (Fin.ext e)
    simp [h, h']

/-- The record of a slot after a record is changed. -/
@[simp] theorem State.record?_modRecord (i j : SlotIx) (f : Record → Record) (s : State) :
    (s.modRecord i f).record? j = if i = j then (s.record? j).map f else s.record? j := by
  unfold State.modRecord
  by_cases h : i = j
  · subst h
    cases hr : s.record? i <;> simp [hr]
  · cases hr : s.record? i <;> simp [h]

/-- A slot of another number is left alone. -/
theorem State.modRecord_slots_ne {i j : SlotIx} (h : i ≠ j) (f : Record → Record) (s : State) :
    (s.modRecord i f).slots[j.val] = s.slots[j.val] := by
  have h' : i.val ≠ j.val := fun e => h (Fin.ext e)
  unfold State.modRecord
  split
  · simp [h']
  · rfl

/-- The genset of a slot after the genset fields are changed. -/
@[simp] theorem State.genset?_modGenset (i j : SlotIx) (f : Genset → Genset) (s : State) :
    (s.modGenset i f).genset? j = if i = j then (s.genset? j).map f else s.genset? j := by
  unfold State.modGenset State.genset?
  rw [State.record?_modRecord]
  by_cases h : i = j
  · subst h
    rcases s.record? i with _ | ⟨_, _, _, _, _, _ | _ | _⟩ <;> simp
  · simp [h]

/-- The PV plant of a slot after the PV fields are changed. -/
@[simp] theorem State.pv?_modPv (i j : SlotIx) (f : Pv → Pv) (s : State) :
    (s.modPv i f).pv? j = if i = j then (s.pv? j).map f else s.pv? j := by
  unfold State.modPv State.pv?
  rw [State.record?_modRecord]
  by_cases h : i = j
  · subst h
    rcases s.record? i with _ | ⟨_, _, _, _, _, _ | _ | _⟩ <;> simp
  · simp [h]

/-- The feeder of a slot after the feeder fields are changed. -/
@[simp] theorem State.feeder?_modFeeder (i j : SlotIx) (f : Feeder → Feeder) (s : State) :
    (s.modFeeder i f).feeder? j = if i = j then (s.feeder? j).map f else s.feeder? j := by
  unfold State.modFeeder State.feeder?
  rw [State.record?_modRecord]
  by_cases h : i = j
  · subst h
    rcases s.record? i with _ | ⟨_, _, _, _, _, _ | _ | _⟩ <;> simp
  · simp [h]

/-- A handle resolves exactly to the slot it names, non-FREE and at its generation (R3). -/
theorem State.resolve_eq_some {s : State} {h : Handle} {i : SlotIx} :
    s.resolve h = some i ↔
      h.slot = i.val ∧ (s.record? i).isSome = true ∧ s.gen i = h.gen ∧ 1 ≤ h.gen ∧ h.gen ≤ 1023 := by
  unfold State.resolve
  constructor
  · intro e
    split at e
    · rename_i hs
      dsimp only at e
      split at e
      · cases e
      · rename_i hg
        split at e
        · rename_i hr
          injection e with e
          subst e
          exact ⟨rfl, hr.1, hr.2, by omega, by omega⟩
        · cases e
    · cases e
  · rintro ⟨hs, hr, hg, h1, h2⟩
    have hlt : h.slot < 64 := by omega
    have hi : (⟨h.slot, hlt⟩ : SlotIx) = i := Fin.ext hs
    have hne : ¬ (h.gen = 0 ∨ 1023 < h.gen) := by omega
    simp [hlt, hi, hr, hg, hne]

/-! ### Lines -/

/-- The lines after one is changed. -/
@[simp] theorem State.modLine_lines (l : LineIx) (f : Line → Line) (s : State) :
    (s.modLine l f).lines = s.lines.set l (f s.lines[l]) := rfl

/-- A line after a line is changed. -/
theorem State.modLine_getElem (l m : LineIx) (f : Line → Line) (s : State) :
    (s.modLine l f).lines[m] = if l = m then f s.lines[m] else s.lines[m] := by
  by_cases h : l = m
  · subst h; simp
  · have h' : l.val ≠ m.val := fun e => h (Fin.ext e)
    simp [h, h']

/-! ### The two time bases and the deadline list -/

/-- Time runs on to the instant asked for, or stays where it is past it. -/
@[simp] theorem State.runTo_now (t : Nat) (s : State) : (s.runTo t).now = max s.now t := by
  unfold State.runTo
  split
  · omega
  · dsimp only; omega

/-- An instant already reached changes nothing. -/
theorem State.runTo_past {t : Nat} {s : State} (h : t ≤ s.now) : s.runTo t = s := by
  unfold State.runTo; simp [h]

/-- A cancelled deadline is not set, and every other is set as before. -/
@[simp] theorem State.isSet_cancel (k j : DeadlineKey) (s : State) :
    (s.cancel k).isSet j = (s.isSet j && decide (j ≠ k)) := by
  unfold State.isSet State.cancel
  by_cases h : j = k
  · subst h
    simp
  · have e1 : ∀ l : List Deadline,
        (l.filter (fun d => d.key != k)).any (fun d => d.key == j) = l.any (fun d => d.key == j) := by
      intro l
      induction l with
      | nil => rfl
      | cons a l ih =>
        by_cases ha : a.key = k
        · have : (a.key == j) = false := by simp [ha]; exact fun e => h e.symm
          simp [ha, ih] at *
          intro e; exact absurd e.symm h
        · simp [ha, ih]
    have e2 : ∀ l : List DeadlineKey, (l.filter (fun x => x != k)).contains j = l.contains j := by
      intro l
      induction l with
      | nil => rfl
      | cons a l ih =>
        by_cases ha : a = k
        · subst ha
          simp [h] at *
        · simp only [List.filter_cons, bne_iff_ne, ne_eq, ha, not_false_eq_true, if_true,
            List.contains_cons, ih]
    simp only [e1, e2, h, ne_eq, not_false_eq_true, decide_true, Bool.and_true]

/-- What is on a list after a deadline is placed on it. -/
@[simp] theorem mem_placeDeadline (d e : Deadline) (l : List Deadline) :
    e ∈ placeDeadline d l ↔ e = d ∨ e ∈ l := by
  induction l with
  | nil => simp [placeDeadline]
  | cons a l ih =>
    unfold placeDeadline
    split
    · simp
    · simp only [List.mem_cons, ih]; tauto

/-- A deadline that is set anew is set, and every other is set as before (R161). -/
@[simp] theorem State.isSet_setDeadlineWith (k j : DeadlineKey) (delay : Nat) (period : Option Nat)
    (s : State) :
    (s.setDeadlineWith k delay period).isSet j = (decide (j = k) || s.isSet j) := by
  have hc := State.isSet_cancel k j s
  by_cases h : j = k
  · subst h
    unfold State.setDeadlineWith
    dsimp only
    split
    · simp [State.isSet]
    · simp only [State.isSet, decide_true, Bool.true_or, Bool.or_eq_true, List.any_eq_true]
      exact .inl ⟨_, (mem_placeDeadline _ _ _).2 (.inl rfl), by simp⟩
  · have hc' : (s.cancel k).isSet j = s.isSet j := by simp [hc, h]
    rw [← hc']
    unfold State.setDeadlineWith
    dsimp only
    have hk : ¬ k = j := fun e => h e.symm
    split
    · simp [State.isSet, h, List.contains_eq_mem]
    · rw [Bool.eq_iff_iff]
      simp only [State.isSet, h, decide_false, Bool.false_or, Bool.or_eq_true, List.any_eq_true,
        mem_placeDeadline, beq_iff_eq]
      constructor
      · rintro (⟨x, rfl | hx, e⟩ | hx)
        · exact absurd e hk
        · exact .inl ⟨x, hx, e⟩
        · exact .inr hx
      · rintro (⟨x, hx, e⟩ | hx)
        · exact .inl ⟨x, .inr hx, e⟩
        · exact .inr hx

/-- A deadline set anew is set, and every other is set as before (R161). -/
@[simp] theorem State.isSet_setDeadline (k j : DeadlineKey) (delay : Nat) (s : State) :
    (s.setDeadline k delay).isSet j = (decide (j = k) || s.isSet j) := by
  unfold State.setDeadline; simp

/-- A cancel keeps every other deadline as it stands (R161). -/
theorem State.keepsDeadline_cancel {k j : DeadlineKey} (h : j ≠ k) (s : State) :
    s.keepsDeadline (s.cancel k) j := by
  refine ⟨fun d hd => ?_, ?_⟩
  · subst hd; simp [State.cancel, h]
  · simp [State.cancel, h]

/-- Setting a deadline keeps every other as it stands (R161). -/
theorem State.keepsDeadline_setDeadline {k j : DeadlineKey} (h : j ≠ k) (delay : Nat) (s : State) :
    s.keepsDeadline (s.setDeadline k delay) j := by
  obtain ⟨he, hd⟩ := State.keepsDeadline_cancel h s
  unfold State.setDeadline State.setDeadlineWith
  dsimp only
  split
  · exact ⟨he, by simpa [h] using hd⟩
  · refine ⟨fun d hk => ?_, hd⟩
    subst hk
    rw [mem_placeDeadline]
    refine ⟨?_, fun hm => .inr ((he d rfl).2 hm)⟩
    rintro (rfl | hm)
    · exact absurd rfl h
    · exact (he d rfl).1 hm

/-- A genset's change of state touches the genset's own deadline alone (R78). -/
theorem State.keepsDeadline_timed {i : SlotIx} {j : DeadlineKey} (h : j ≠ .gensetTimer i) (s t : State)
    (st : GensetState) (ht : t.scu = s.timed i st) : s.keepsDeadline t j := by
  unfold State.keepsDeadline
  cases st <;> rw [ht] <;>
    first | exact State.keepsDeadline_setDeadline h _ s | exact State.keepsDeadline_cancel h s

/-- Only a deadline that is set has an expiry to take. -/
theorem State.expire_isSome (k : DeadlineKey) (s : State) : (s.expire k).isSome = s.isSet k := by
  unfold State.expire State.isSet
  by_cases h : s.scu.delivered.contains k = true
  · simp only [h, if_true, Option.isSome_some, Bool.or_true]
  · simp only [h, Bool.false_eq_true, if_false, Bool.or_false]
    cases hf : s.scu.entries.find? (fun d => d.key == k) with
    | none =>
      have := List.find?_eq_none.1 hf
      simp only [Option.isSome_none]
      symm
      simpa using this
    | some d =>
      have h1 := List.mem_of_find?_eq_some hf
      have h2 := List.find?_some hf
      simp only [Option.isSome_some]
      symm
      rw [List.any_eq_true]
      exact ⟨d, h1, h2⟩

/-! ### What a step takes -/

/-- Held in reset, a step has no effect (R185). -/
theorem State.awake_held {f : State → State} {s : State} (h : s.port.resetHeld = true) :
    s.awake f = s := by
  unfold State.awake; simp [h]

/-- Out of reset, a step acts. -/
theorem State.awake_run {f : State → State} {s : State} (h : s.port.resetHeld = false) :
    s.awake f = f s := by
  unfold State.awake; simp [h]

/-- A block acts on the event it takes. -/
theorem State.take_takes {α : Type} {sel : Message → Option α} {f : α → State → State} {a : α}
    {s s0 : State} (h : s.takes sel a s0) : s.awake (State.take sel f) = f a s0 := by
  obtain ⟨h1, rest, h2, rfl⟩ := h
  rw [State.awake_run h1]
  unfold State.take
  rw [h2]

/-- With no event of its kind waiting, a block does nothing. -/
theorem State.take_none {α : Type} {sel : Message → Option α} {f : α → State → State} {s : State}
    (h : takeFirst sel s.mail = none) : s.take sel f = s := by
  unfold State.take; rw [h]

/-- An owner acts at the expiry it takes. -/
theorem State.onExpiry_expires {k : DeadlineKey} {f : State → State} {s s0 : State}
    (h : s.expires k s0) : s.onExpiry k f = f s0 := by
  unfold State.onExpiry
  rw [State.awake_run h.1, h.2]

/-- With the deadline not set, an expiry has no effect. -/
theorem State.onExpiry_unset {k : DeadlineKey} {f : State → State} {s : State}
    (h : s.isSet k = false) : s.onExpiry k f = s := by
  have e : s.expire k = none := by
    have := State.expire_isSome k s
    rw [h] at this
    simpa using this
  unfold State.onExpiry State.awake
  split
  · rfl
  · simp only [e]

/-- A request that is taken acts. -/
theorem State.serve_serves {c : Instr} {f : State → State} {s : State} (h : s.serves c) :
    s.serve c f = f s := by
  obtain ⟨h1, h2⟩ := h
  unfold State.serve
  rw [State.awake_run h1]
  rcases h2 with h2 | h2 <;> simp [h2]

/-- A message handed joins the tail. -/
@[simp] theorem State.hand_mail (m : Message) (s : State) : (s.hand m).mail = s.mail ++ [m] := rfl

/-! ### Notices -/

/-- A judged NOTIFY agrees with what is pending (R180). -/
@[simp] theorem State.judge_agrees (s : State) : s.judge.notifyAgrees := by
  unfold State.notifyAgrees State.judge NoticeUnit.drives State.param
  rfl

/-- What a raise leaves pending, and the level and NOTIFY with it (R179, R180). -/
theorem State.raise_spec (k : NoticeIx) (detail : Option Nat) (s : State) :
    (s.raise k detail).ntu.held = s.ntu.held.set k (some (Notice.raised s.ntu.held[k] detail)) ∧
    (s.raise k detail).ntu.levels = s.ntu.levels ∧ (s.raise k detail).notifyAgrees :=
  ⟨rfl, rfl, State.judge_agrees _⟩

/-- A raise of a kind is noticed. -/
theorem State.raise_noticed (k : NoticeIx) (detail : Option Nat) (s : State) :
    s.noticed (s.raise k detail) k detail := by
  unfold State.noticed
  rw [(State.raise_spec k detail s).1]
  cases h : s.ntu.held[k] with
  | none => simp only [Fin.getElem_fin] at h; simp [Notice.raised]
  | some n => simp only [Fin.getElem_fin] at h; simp [Notice.raised]

/-! ### Responses -/

/-- A response is pending, and no request is in progress (R176, R177). -/
@[simp] theorem State.respond_port (c : Instr) (st : Status) (body : List Byte) (s : State) :
    (s.respond c st body).port =
      { s.port with response := some (responseFrame st (requestCode c) body), request := none } := rfl

/-! ### The queues of the field link -/

/-- No setpoint entry of a dropped slot is left (R25). -/
theorem State.dropSetpoints_none (i : SlotIx) (s : State) :
    ∀ e ∈ (s.dropSetpoints i).link.setpoints, e.slot ≠ i := by
  intro e he
  simpa [State.dropSetpoints] using (List.mem_filter.1 he).2

/-- No command entry of a dropped slot is left (R25). -/
theorem State.dropUnload_none (i : SlotIx) (s : State) :
    ∀ e ∈ (s.dropUnload i).link.commands, e.slot ≠ i := by
  intro e he
  simpa [State.dropUnload] using (List.mem_filter.1 he).2

/-! ### Freeing a slot -/

/-- A generation in range stays in range when its slot becomes FREE (R2). -/
theorem nextGen_inRange {g : Nat} (h : genInRange g) : genInRange (nextGen g) := by
  unfold genInRange nextGen at *
  split <;> omega

end Sys2Proof.Machine
end

