-- ==== Sys2Proof/Tests/Slice0.lean ====
section
/-! SUPPORT. Tests of the model on small states, and, for each statement with hypotheses, a state and
operands that meet them. -/

open Sys2Proof Sys2Proof.Machine

namespace Sys2Proof.Tests

set_option Elab.async false

/-! ### Small states -/

/-- The state a command answers. -/
def after (c : Instr) (s : State) : State :=
  match exec c s with
  | .next t => t
  | _ => s

/-- A record with the fields of a kind, ACTIVE, with the slot as its tag. -/
def recordOf (i : SlotIx) (b : Body) : Record :=
  { lifecycle := .active, tag := i + 1, binding := none, lastReport := none, fresh := false, body := b }

/-- A record put into a slot. -/
def placed (i : SlotIx) (b : Body) (s : State) : State := s.putRecord i (recordOf i b)

/-- A genset on lines 0 to 3. -/
def genset : Genset :=
  { rated := 500, minLoad := 100, rank := 1, mustRun := false, runLine := 0, readyLine := 1,
    breakerLine := 2, permitLine := some 3, state := .stopped, attempts := 0, onlineSince := none,
    trips := 0, output := none, fault := false }

/-- A PV plant of 400 kW in class 2. -/
def pv : Pv :=
  { rated := 400, cls := 2, ramp := none, setpoint := 400, lastSent := none, lastAck := none,
    unconfirmed := false, planCap := none, output := some 300, available := some 300,
    limited := false }

/-- A feeder on lines 10 to 12, CLOSED and sheddable. -/
def feeder : Feeder :=
  { cls := 3, sheddable := true, nominal := 150, tripLine := 10, closeLine := some 11,
    statusLine := some 12, state := .closed, hold := 0, cause := none, measured := none,
    lastChange := 0, pendingCause := none }

/-- The state after reset with one genset in a state, in slot 5. -/
def gensetIn (st : GensetState) : State := placed 5 (.genset { genset with state := st }) State.reset

/-- The state after reset with one feeder in a state, in slot 7. -/
def feederIn (st : FeederState) : State := placed 7 (.feeder { feeder with state := st }) State.reset

/-- The handles of slots 5, 6 and 7 at generation 1. -/
def h5 : Handle := { slot := 5, gen := 1 }
def h6 : Handle := { slot := 6, gen := 1 }
def h7 : Handle := { slot := 7, gen := 1 }

/-- The state with an expiry delivered. -/
def due (k : DeadlineKey) (s : State) : State := { s with scu := { s.scu with delivered := [k] } }

/-- The state in a grid state. -/
def inGrid (g : GridState) (s : State) : State := { s with blu := { s.blu with grid := g } }

/-- The state with a message waiting. -/
def mailed (m : Message) (s : State) : State := { s with mail := [m] }

/-- The state with a line's filtered level set. -/
def level (l : LineIx) (b : Bool) (s : State) : State := s.modLine l (fun x => { x with filtered := b })

/-- The state with a line of a function. -/
def lined (l : LineIx) (f : LineFunction) (s : State) : State := s.modLine l (fun x => { x with function := f })

/-- A value for every slot but one that has none. -/
theorem only {α : Type} {f : SlotIx → Option α} {i : SlotIx} (h : ∀ j, j ≠ i → f j = none)
    {P : SlotIx → α → Prop} : ∀ j x, j ≠ i → f j = some x → P j x := by
  intro j x hj e
  rw [h j hj] at e
  cases e

/-- A table that holds nothing. -/
theorem empty {α β : Type} {f : α → Option β} (h : ∀ j, f j = none) {P : α → β → Prop} :
    ∀ j x, f j = some x → P j x := by
  intro j x e
  rw [h j] at e
  cases e
/-- The state with the lines a genset and a feeder need configured. -/
def wired (s : State) : State :=
  lined 0 .runOut (lined 1 .readyIn (lined 2 .genBreakerIn (lined 3 .permitOut (lined 10 .tripOut
    (lined 11 .closeOut (lined 12 .statusIn s))))))

/-- The names are sound in a table that holds one record, its roles on lines of their functions. -/
theorem soundAlone {rec : SlotIx → Option Record} {fn : LineIx → LineFunction} (i : SlotIx) (r : Record)
    (hi : rec i = some r) (h : ∀ j, j ≠ i → rec j = none) (hn : r.lines.Nodup)
    (hf : ∀ q ∈ r.roles, fn q.2 = roleFunction q.1) : Machine.namesSound rec fn := by
  refine ⟨fun j k a b hjk hj hk => ?_, fun j a hj => ?_⟩
  · by_cases hji : j = i
    · rw [h k (fun e => hjk (hji.trans e.symm))] at hk; cases hk
    · rw [h j hji] at hj; cases hj
  · by_cases hji : j = i
    · subst hji
      rw [hi] at hj; cases hj
      exact ⟨hn, fun n l hm => hf (n, l) hm⟩
    · rw [h j hji] at hj; cases hj

/-- A genset in SYNCING that holds the permit, its permit output active, on lines of their functions. -/
def permitted : State :=
  let s := wired (gensetIn .syncing)
  { s with gsq := { s.gsq with permitHolder := some 5 } }.drive 3 true

/-! ### What the statements about steps and resets suppose -/

theorem witness_StepRunsFrontCommand :
    ∃ (c : Instr) (rest : List Instr) (s : State), s.pending = c :: rest :=
  ⟨.nop, [], { State.reset with pending := [.nop] }, rfl⟩

theorem witness_IdleStepTakesWhatIsDue :
    (∃ s : State, s.pending = [] ∧ s.port.resetHeld = true) ∧
    (∃ s : State, s.pending = [] ∧ s.port.resetHeld = false ∧ s.dueRow = some .enterDark) ∧
    (∃ s : State, s.pending = [] ∧ s.port.resetHeld = false ∧ s.dueRow = none) :=
  ⟨⟨{ State.reset with port := { State.reset.port with resetHeld := true } }, rfl, rfl⟩,
   ⟨mailed .darkBlu State.reset, rfl, rfl, rfl⟩, ⟨State.reset, rfl, rfl, by decide +kernel⟩⟩

theorem witness_NothingRunsWithoutACause :
    (∃ (c : Instr) (s : State), s.port.resetHeld = true ∧ actsInReset c = false) ∧
    (∃ (m : Message) (s : State), ∀ m' ∈ s.mail, m'.row ≠ m.row) ∧
    (∃ (k : DeadlineKey) (s : State), s.isSet k = false) :=
  ⟨⟨.nop, { State.reset with port := { State.reset.port with resetHeld := true } }, rfl, rfl⟩,
   ⟨.darkBlu, mailed .darkRsq State.reset, by decide +kernel⟩, ⟨.stagger, State.reset, by decide +kernel⟩⟩

/-- A state with a NOP at the front of its queue. -/
def nopped (s : State) : State := { s with pending := [.nop] }

theorem witness_StepKeepsNotifyInAgreement :
    ∃ s t : State, s.notifyAgrees ∧ step s = .next t :=
  ⟨nopped (State.reset.raise NoticeKind.breaker (some 5)), _, by unfold State.notifyAgrees; decide +kernel, rfl⟩

theorem witness_StepKeepsFrequencyInRange : ∃ s t : State, s.busInRange ∧ step s = .next t :=
  ⟨nopped { State.reset with bus := { State.reset.bus with history := [1, 2, 3, 4, 5], frequency := 40000 } },
    _, by unfold State.busInRange; decide +kernel, rfl⟩

theorem witness_StepKeepsTheTableInRange :
    (∃ s t : State, s.recordsInRange ∧ step s = .next t) ∧
    (∃ s t : State, s.gensInRange ∧ step s = .next t) ∧
    (∃ s t : State, s.namesSound ∧ step s = .next t) := by
  refine ⟨⟨nopped (placed 7 (.feeder { feeder with hold := 15 }) (placed 6 (.pv { pv with cls := 7 })
      State.reset)), _, ⟨by decide +kernel, ?_, ?_⟩, rfl⟩,
    ⟨nopped { State.reset with slots := State.reset.slots.set 5 { gen := 1023, record := none } }, _,
      ⟨by unfold genInRange; decide +kernel, ?_, ?_⟩, rfl⟩,
    ⟨nopped (wired (gensetIn .online)), _,
      ⟨soundAlone 5 (recordOf 5 (.genset { genset with state := .online })) rfl (by decide +kernel)
        (by decide) (by decide +kernel), ?_, ?_⟩, rfl⟩⟩ <;> (intro a h; cases h)

theorem witness_StepKeepsStartLimit :
    (∃ s t : State, s.placesInLimit ∧ step s = .next t) ∧
    (∃ s t : State, s.namesSound ∧ s.permitAlone ∧ s.lines[(3 : LineIx)].driven = true ∧
      step s = .next t) ∧
    (∃ s t : State, s.deadlinesOnce ∧ step s = .next t) := by
  refine ⟨⟨nopped (gensetIn .cranking), _, by unfold State.placesInLimit; decide +kernel, rfl⟩,
    ⟨nopped permitted, _,
      ⟨soundAlone 5 (recordOf 5 (.genset { genset with state := .syncing })) rfl (by decide +kernel)
        (by decide) (by decide +kernel), ?_, ?_⟩, ?_, rfl, rfl⟩,
    ⟨nopped State.reset, _, by unfold State.deadlinesOnce; decide +kernel, rfl⟩⟩
  · intro a h; cases h
  · intro a h; cases h
  · intro l hl _
    have h : l = 3 := by revert l; decide +kernel
    subst h
    exact ⟨5, { genset with state := .syncing }, rfl, rfl, rfl⟩

theorem witness_EveryResetPutsBlocksInResetState :
    (∃ (c : Instr) (s : State) (m : Image) (warm : Bool), (c = .powerOnReset ∧ warm = false) ∧
      m = s.store.load.getD Image.blank) ∧
    (∃ (c : Instr) (s : State) (m : Image) (warm : Bool), (c = .resetInputReleased ∧
      s.port.resetHeld = true ∧ warm = true) ∧ m = s.store.load.getD Image.blank) ∧
    (∃ (c : Instr) (s : State) (m : Image) (warm : Bool), (c = .restart ∧ s.serves .restart ∧
      warm = true) ∧ m = s.store.load.getD Image.blank) ∧
    (∀ b : Body, ∃ (s : State) (m : Image) (r : Record), m = s.store.load.getD Image.blank ∧
      m.slots[(5 : SlotIx)].record = some r ∧ r.body = b.scrubbed ∧
      ∀ (j : SlotIx) (q : Record), j ≠ 5 → m.slots[j].record ≠ some q) ∧
    (∃ s : State, s.store.load = none) := by
  refine ⟨⟨_, State.reset, _, _, ⟨rfl, rfl⟩, rfl⟩,
   ⟨_, { State.reset with port := { State.reset.port with resetHeld := true } }, _, _, ⟨rfl, rfl, rfl⟩, rfl⟩,
   ⟨_, State.reset, _, _, ⟨rfl, ⟨rfl, .inl rfl⟩, rfl⟩, rfl⟩, fun b => ?_, ⟨State.reset, rfl⟩⟩
  refine ⟨{ State.reset with
    store := { current := some (placed 5 b State.reset).snapshot.area, spare := none, saving := none } },
    (placed 5 b State.reset).snapshot, (recordOf 5 b).scrubbed, ?_, ?_, rfl, ?_⟩
  · have hg : ((placed 5 b State.reset).snapshot.area).good = true := by simp [ImageArea.good, Image.area]
    simp only [SettingsStore.load, Option.filter, hg, if_true, Option.map_some, Option.getD_some]
    rfl
  · simp [State.snapshot, placed, State.putRecord]
  · intro j q hj
    have h : ((placed 5 b State.reset).snapshot.slots[j]).record = none := by
      have h5 : (5 : Nat) ≠ j.val := fun e => hj (Fin.ext e.symm)
      simp [State.snapshot, placed, State.putRecord, State.reset, Vector.getElem_set_ne, h5]
    rw [h]; nofun

theorem witness_ResetInputAndRunOutputs :
    ∃ (s : State) (m : Image), s.port.resetHeld = true ∧ s.store.load = some m := by
  refine ⟨{ State.reset with
    port := { State.reset.port with resetHeld := true },
    store := { current := some State.reset.snapshot.area, spare := none, saving := none } },
    State.reset.snapshot, rfl, ?_⟩
  simp [SettingsStore.load, ImageArea.good, Image.area]

theorem witness_TransactionSwapsResponseForRequest :
    (∃ (clocked : List Byte) (s : State), s.port.resetHeld = false ∧ s.port.request = none ∧
      clocked = []) ∧
    (∃ (clocked : List Byte) (s : State), s.port.resetHeld = false ∧ s.port.request = none ∧
      clocked.head? = some 0) ∧
    (∃ (clocked : List Byte) (s : State) (c : Instr), s.port.resetHeld = false ∧
      s.port.request = none ∧ requestCode c ≠ 0 ∧ c.wellFormed = true ∧ clocked = writeFrame c) ∧
    (∃ (clocked : List Byte) (s : State) (status : Status) (k : Nat), s.port.resetHeld = false ∧
      s.port.request = none ∧ readFrame clocked = .refused status (some k)) ∧
    (∃ s : State, s.port.resetHeld = true) ∧
    (∃ (s : State) (c : Instr), s.port.resetHeld = false ∧ s.port.request = some c) :=
  ⟨⟨[], State.reset, rfl, rfl, rfl⟩, ⟨[0, 0], State.reset, rfl, rfl, rfl⟩,
   ⟨_, State.reset, .query h5, rfl, rfl, by decide, by decide +kernel, rfl⟩,
   ⟨[3, 0x99, 0], State.reset, .unknownRequest, 0x99, rfl, rfl, by decide +kernel⟩,
   ⟨{ State.reset with port := { State.reset.port with resetHeld := true } }, rfl⟩,
   ⟨{ State.reset with port := { State.reset.port with request := some .nop } }, .nop, rfl, rfl⟩⟩

theorem witness_RequestFrameRoundTrip :
    ∃ c : Instr, requestCode c ≠ 0 ∧ c.wellFormed = true :=
  ⟨.planWriteStep 255 255 (some h5) 65535 65535 255, by decide, by decide +kernel⟩

theorem witness_FrameChecksInOrder :
    (∃ n : Byte, n ≠ 0 ∧ n.toNat < 3) ∧
    (∃ n : Byte, ∃ rest : List Byte, n ≠ 0 ∧ rest.length + 2 < n.toNat) ∧
    (∃ (n k : Byte) (rest : List Byte), 3 ≤ n.toNat ∧ n.toNat ≤ rest.length + 2 ∧
      k.toNat ∉ requestCodes) ∧
    (∃ (n : Byte) (rest : List Byte), n.toNat = rest.length + 1 ∧ 3 ≤ n.toNat) ∧
    (∃ (n k : Byte) (rest : List Byte) (len size : Nat), n.toNat = len + 2 ∧ 1 ≤ len ∧
      len ≤ rest.length ∧ (k.toNat, size) ∈ [(0x12, 2)] ∧ len ≠ size) ∧
    (∃ (n k : Byte) (rest : List Byte) (len : Nat), n.toNat = len + 2 ∧ 1 ≤ len ∧
      len ≤ rest.length ∧ (k.toNat, len) ∈ [(0x12, 2)]) ∧
    (∃ (n k : Byte) (rest : List Byte) (code : Nat → Option Byte), n.toNat = 4 + 2 ∧
      4 ≤ rest.length ∧ (k.toNat, 0, 2) ∈ [(0x71, 0, 2)] ∧
      (∀ a, code a = if 0 + a * 2 < 4 then rest[0 + a * 2]? else none) ∧
      ∃ a b v, a < b ∧ code a = some v ∧ code b = some v) ∧
    (∃ (n k : Byte) (rest : List Byte) (code : Nat → Option Byte), n.toNat = 3 + 2 ∧
      3 ≤ rest.length ∧ (k.toNat, 1, 2) ∈ [(0x21, 1, 2)] ∧
      (∀ a, code a = if 1 + a * 2 < 3 then rest[1 + a * 2]? else none) ∧
      (∀ a b v, a < b → code a = some v → code b ≠ some v) ∧
      ∀ a v, code a = some v → 1 ≤ v.toNat ∧ v.toNat ≤ 5) := by
  refine ⟨⟨2, by decide, by decide⟩, ⟨3, [], by decide, by decide⟩,
   ⟨3, 0, [0], by decide, by decide, by decide +kernel⟩, ⟨3, [1, 0], by decide, by decide⟩,
   ⟨5, 0x12, [1, 2, 3], 3, 2, by decide, by decide, by decide, by decide, by decide⟩,
   ⟨4, 0x12, [1, 2, 3], 2, by decide, by decide, by decide, by decide⟩,
   ⟨6, 0x71, [1, 5, 1, 6], _, by decide, by decide, by decide, fun _ => rfl, 0, 1, 1, by decide, rfl, rfl⟩,
   ⟨5, 0x21, [9, 5, 0], _, by decide, by decide, by decide, fun _ => rfl, ?_, ?_⟩⟩
  · intro a b v hab _
    rw [if_neg (by omega)]; nofun
  · intro a v h
    split at h
    · obtain rfl : a = 0 := by omega
      cases h; decide
    · cases h

/-! ### What the statements about requests suppose -/

theorem witness_HandlesAndKindsAreChecked :
    (∃ (c : Instr) (s : State) (h : Handle) (k : Option Kind), s.serves c ∧
      namedHandle c = some (h, k) ∧ s.resolve h = none) ∧
    (∃ (c : Instr) (s : State) (h : Handle) (k : Option Kind) (i : SlotIx) (r : Record) (kind : Kind),
      s.serves c ∧ namedHandle c = some (h, k) ∧ s.resolve h = some i ∧ s.record? i = some r ∧
      k = some kind ∧ r.body.kind ≠ kind) :=
  ⟨⟨.start h5, State.reset, h5, _, ⟨rfl, .inl rfl⟩, rfl, by decide +kernel⟩,
   ⟨.start h7, feederIn .closed, h7, _, 7, _, .genset, ⟨rfl, .inl rfl⟩, rfl, by decide +kernel, rfl, rfl,
     by decide⟩⟩

theorem witness_LookupTagFindsTheHolder :
    (∃ (tag : Nat) (s : State), s.serves (.lookupTag tag) ∧ tag = 0) ∧
    (∃ (tag : Nat) (s : State) (i : SlotIx) (r : Record), s.serves (.lookupTag tag) ∧ tag ≠ 0 ∧
      s.record? i = some r ∧ r.tag = tag ∧ ∀ j r', j < i → s.record? j = some r' → r'.tag ≠ tag) ∧
    (∃ (tag : Nat) (s : State), s.serves (.lookupTag tag) ∧ tag ≠ 0 ∧
      ∀ i r, s.record? i = some r → r.tag ≠ tag) := by
  refine ⟨⟨0, State.reset, ⟨rfl, .inl rfl⟩, rfl⟩,
    ⟨8, feederIn .closed, 7, recordOf 7 (.feeder feeder), ⟨rfl, .inl rfl⟩, by decide, by decide +kernel, rfl, ?_⟩,
    ⟨8, State.reset, ⟨rfl, .inl rfl⟩, by decide, empty (by decide +kernel)⟩⟩
  intro j r' hj
  exact only (i := 7) (f := (feederIn .closed).record?) (P := fun _ r' => r'.tag ≠ 8) (by decide +kernel)
    j r' (ne_of_lt hj)

theorem witness_QueryAndListShowTheTable :
    (∀ b : Body, ∃ (h : Handle) (s : State) (i : SlotIx) (r : Record), s.serves (.query h) ∧
      s.resolve h = some i ∧ s.record? i = some r ∧ r.body = b) ∧
    (∃ (first kind : Nat) (s : State), s.serves (.list first kind) ∧ 63 < first) ∧
    (∃ (first kind : Nat) (s : State), s.serves (.list first kind) ∧ first ≤ 63 ∧ 3 < kind) ∧
    (∃ (first kind : Nat) (s : State), s.serves (.list first kind) ∧ first ≤ 63 ∧ kind ≤ 3) :=
  ⟨fun b => ⟨h7, placed 7 b State.reset, 7, recordOf 7 b, ⟨rfl, .inl rfl⟩, rfl, rfl, rfl⟩,
   ⟨64, 0, State.reset, ⟨rfl, .inl rfl⟩, by decide⟩, ⟨63, 4, State.reset, ⟨rfl, .inl rfl⟩, by decide, by decide⟩,
   ⟨63, 3, State.reset, ⟨rfl, .inl rfl⟩, by decide, by decide⟩⟩

/-- A genset station at address 9. -/
def station : Station :=
  { address := 9, cls := .gensetCtrl, units := 2, access := .reportCommand, allowance := 50, gap := 10,
    misses := 0, reach := .unknown, due := false }

/-- The state with one station at index 0. -/
def stationed (x : Station) (s : State) : State := { s with stations := s.stations.set 0 (some x) }

theorem noneBelow {α : Type} {f : DirIx → Option α} {P : DirIx → α → Prop} :
    ∀ e y, e < (0 : DirIx) → f e = some y → P e y := by
  intro e y h; exact absurd h (Fin.not_lt_zero e)

theorem witness_StatusQueriesAnswer :
    (∃ s : State, s.serves .nop ∧ s.serves .gridStatus) ∧
    (∃ (index : Nat) (s : State), index < 32 ∧ s.serves (.stationQuery 0 index)) ∧
    (∃ (address index : Nat) (s : State), s.serves (.stationQuery address index) ∧ address ≠ 0 ∧
      ∀ (d : DirIx) (x : Station), s.stations[d] = some x → x.address ≠ address) ∧
    (∃ (address index : Nat) (s : State) (d : DirIx) (x : Station),
      s.serves (.stationQuery address index) ∧ address ≠ 0 ∧ s.stations[d] = some x ∧
      x.address = address ∧ ∀ e y, e < d → s.stations[e] = some y → y.address ≠ address) ∧
    (∃ (line : Nat) (s : State), s.serves (.lineQuery line) ∧ line = 64) ∧
    (∃ (line : Nat) (s : State), s.serves (.lineQuery line) ∧ line = 63) ∧
    (∃ (first : Nat) (s : State), s.serves (.planQuery first) ∧ first = 32) ∧
    (∃ (first : Nat) (s : State), s.serves (.planQuery first) ∧ first = 31) :=
  ⟨⟨State.reset, ⟨rfl, .inl rfl⟩, rfl, .inl rfl⟩, ⟨31, State.reset, by decide, rfl, .inl rfl⟩,
   ⟨9, 0, State.reset, ⟨rfl, .inl rfl⟩, by decide,
     empty (f := fun d : DirIx => State.reset.stations[d]) (by decide +kernel)⟩,
   ⟨9, 0, stationed station State.reset, 0, station, ⟨rfl, .inl rfl⟩, by decide, rfl, rfl, noneBelow⟩,
   ⟨64, State.reset, ⟨rfl, .inl rfl⟩, rfl⟩, ⟨63, State.reset, ⟨rfl, .inl rfl⟩, rfl⟩,
   ⟨32, State.reset, ⟨rfl, .inl rfl⟩, rfl⟩, ⟨31, State.reset, ⟨rfl, .inl rfl⟩, rfl⟩⟩

theorem witness_StatusQueriesAnswer_rows :
    (∃ (index : Nat) (s : State), s.serves (.stationQuery 0 index) ∧ 32 ≤ index) ∧
    (∃ (line : Nat) (s : State) (l : LineIx), s.serves (.lineQuery line) ∧ l.val = line ∧
      ∀ i r, s.record? i = some r → l ∉ r.lines) ∧
    (∃ (line : Nat) (s : State) (l : LineIx) (i : SlotIx) (r : Record), s.serves (.lineQuery line) ∧
      l.val = line ∧ s.record? i = some r ∧ (5, l) ∈ r.roles ∧ (∀ n, (n, l) ∈ r.roles → n = 5) ∧
      ∀ j q, j ≠ i → s.record? j = some q → l ∉ q.lines) ∧
    (∃ (s : State) (x : PlanStep), s.serves (.planQuery 0) ∧ s.rsq.steps[(0 : PosIx)] = some x) := by
  refine ⟨⟨32, State.reset, ⟨rfl, .inl rfl⟩, by decide⟩,
    ⟨63, State.reset, 63, ⟨rfl, .inl rfl⟩, rfl, empty (f := State.reset.record?) (by decide +kernel)⟩,
    ⟨10, feederIn .closed, 10, 7, recordOf 7 (.feeder feeder), ⟨rfl, .inl rfl⟩, rfl, rfl, ?_, ?_,
      only (f := (feederIn .closed).record?) (by decide +kernel)⟩,
    ⟨{ State.reset with rsq := { State.reset.rsq with
        steps := State.reset.rsq.steps.set 0 (some { action := .settle 5, timeout := 0, onFailure := .abort }) } },
      _, ⟨rfl, .inl rfl⟩, rfl⟩⟩
  · simp [Record.roles, recordOf, feeder]
  · intro n hn
    simp [Record.roles, recordOf, feeder] at hn
    exact hn

theorem witness_ParametersAreReadAndWritten :
    (∃ (s : State) (p : Param), s.serves (.getParameter p.id)) ∧
    (∃ (s : State) (n : Nat), s.serves (.getParameter n) ∧ ∀ p : Param, p.id ≠ n) ∧
    (∃ (p : Param) (v : Int) (s : State), s.serves (.setParameter p.id v) ∧ v < 0) ∧
    (∃ (p : Param) (v : Int) (s : State), s.serves (.setParameter p.id v) ∧ (p.range.2 : Int) < v) ∧
    (∃ (p : Param) (v : Int) (s : State), s.serves (.setParameter p.id v) ∧ s.accepts p v.toNat = false) ∧
    (∃ (p : Param) (v : Int) (s : State), s.serves (.setParameter p.id v) ∧
      p ∉ [Param.nominal, .evalPeriod, .pollCycle, .startLimit, .notifyThreshold] ∧ 0 ≤ v ∧
      s.accepts p v.toNat = true) ∧
    (∃ (v : Nat) (s : State), s.serves (.setParameter 0x60 v) ∧ 1 ≤ v ∧ v ≤ 7) := by
  refine ⟨⟨State.reset, .baud, rfl, .inl rfl⟩, ⟨State.reset, 0, ⟨rfl, .inl rfl⟩, ?_⟩,
    ⟨.stopDelay, -1, State.reset, ⟨rfl, .inl rfl⟩, by decide⟩,
    ⟨.stopDelay, 1801, State.reset, ⟨rfl, .inl rfl⟩, by decide⟩,
    ⟨.baud, 115201, State.reset, ⟨rfl, .inl rfl⟩, by decide +kernel⟩,
    ⟨.stopDelay, 1800, State.reset, ⟨rfl, .inl rfl⟩, by decide, by decide, by decide +kernel⟩,
    ⟨7, State.reset, ⟨rfl, .inl rfl⟩, by decide, by decide⟩⟩
  intro p; cases p <;> simp [Param.id]

theorem witness_WritesWithEffectsOfTheirOwn :
    (∃ (v : Nat) (s : State), s.serves (.setParameter 0x10 v) ∧ v ≠ 50000 ∧ v ≠ 60000) ∧
    (∃ (v : Nat) (s : State), s.serves (.setParameter 0x10 v) ∧ v = 50000 ∧ v = s.param .nominal) ∧
    (∃ (v : Nat) (s : State), s.serves (.setParameter 0x10 v) ∧ v = 60000 ∧ v ≠ s.param .nominal) ∧
    (∃ (v : Nat) (s : State), s.serves (.setParameter 0x01 v) ∧ v = 100 ∧ v ≠ s.param .evalPeriod) ∧
    (∃ (v : Nat) (s : State), s.serves (.setParameter 0x51 v) ∧ v = 5000 ∧ v ≠ s.param .pollCycle) ∧
    (∃ (v : Nat) (s : State), s.serves (.setParameter 0x38 v) ∧ 1 ≤ v ∧ v ≤ 3 ∧ v < s.placesUsed) ∧
    (∃ (v : Nat) (s : State), s.serves (.setParameter 0x38 v) ∧ v = 3 ∧ s.placesUsed ≤ v ∧ s.quiet) :=
  ⟨⟨50001, State.reset, ⟨rfl, .inl rfl⟩, by decide, by decide⟩,
   ⟨50000, State.reset, ⟨rfl, .inl rfl⟩, rfl, by decide +kernel⟩,
   ⟨60000, State.reset, ⟨rfl, .inl rfl⟩, rfl, by decide +kernel⟩,
   ⟨100, State.reset, ⟨rfl, .inl rfl⟩, rfl, by decide +kernel⟩,
   ⟨5000, State.reset, ⟨rfl, .inl rfl⟩, rfl, by decide +kernel⟩,
   ⟨1, placed 6 (.genset { genset with state := .resting }) (gensetIn .cranking), ⟨rfl, .inl rfl⟩,
     by decide, by decide, by decide +kernel⟩,
   ⟨3, State.reset, ⟨rfl, .inl rfl⟩, rfl, by decide +kernel, rfl, rfl⟩⟩

theorem witness_WritesWithEffectsOfTheirOwn_others :
    (∃ (n : Nat) (s : State), s.serves (.setParameter n 7) ∧ ∀ p : Param, p.id ≠ n) ∧
    (∃ (v : Nat) (s : State), s.serves (.setParameter 0x01 v) ∧ v = s.param .evalPeriod ∧ 100 ≤ v ∧ v ≤ 1000) ∧
    (∃ (v : Nat) (s : State), s.serves (.setParameter 0x51 v) ∧ v = s.param .pollCycle ∧ 200 ≤ v ∧ v ≤ 5000) ∧
    (∃ (v : Nat) (s : State), s.serves (.setParameter 0x38 v) ∧ v = s.param .startLimit ∧ 1 ≤ v ∧ v ≤ 3 ∧
      s.placesUsed ≤ v) ∧
    (∃ (v : Nat) (s : State), s.serves (.setParameter 0x38 v) ∧ v = 2 ∧ s.param .startLimit < v ∧
      s.placesUsed ≤ v ∧ s.gsq.waitList = [5]) := by
  refine ⟨⟨0x70, State.reset, ⟨rfl, .inl rfl⟩, ?_⟩, ⟨200, State.reset, ⟨rfl, .inl rfl⟩, by decide +kernel, by decide, by decide⟩,
    ⟨500, State.reset, ⟨rfl, .inl rfl⟩, by decide +kernel, by decide, by decide⟩,
    ⟨1, State.reset, ⟨rfl, .inl rfl⟩, by decide +kernel, by decide, by decide, by decide +kernel⟩,
    ⟨2, { gensetIn .stopped with gsq := { State.reset.gsq with waitList := [5] } }, ⟨rfl, .inl rfl⟩, rfl,
      by decide +kernel, by decide +kernel, rfl⟩⟩
  intro p
  cases p <;> simp only [Param.id] <;> omega

theorem witness_LineConfigureTakesEffectAtOnce :
    (∃ (l : LineIx) (f : LineFunction) (p : Polarity) (t : Option Nat) (s : State),
      s.serves (.lineConfigure l.val f.code p.code t) ∧ f.filterInRange (t.getD f.defaultFilter) = true ∧
      (s.lineUsers l).isEmpty = false) ∧
    (∃ (l : LineIx) (f : LineFunction) (p : Polarity) (t : Option Nat) (s : State),
      s.serves (.lineConfigure l.val f.code p.code t) ∧ f.filterInRange (t.getD f.defaultFilter) = true ∧
      f = .zeroCrossIn ∧ ∃ j, j ≠ l ∧ s.lines[j].function = .zeroCrossIn) ∧
    (∃ (l : LineIx) (f : LineFunction) (p : Polarity) (t : Option Nat) (s : State),
      s.serves (.lineConfigure l.val f.code p.code t) ∧ f.filterInRange (t.getD f.defaultFilter) = true ∧
      (s.lineUsers l).isEmpty = true ∧ f = .zeroCrossIn ∧
      ∀ j, s.lines[j].function = .zeroCrossIn → j = l) :=
  ⟨⟨12, .statusIn, .activeHigh, some 50, feederIn .closed, ⟨rfl, .inl rfl⟩, by decide, by decide +kernel⟩,
   ⟨63, .zeroCrossIn, .activeLow, none, lined 20 .zeroCrossIn State.reset, ⟨rfl, .inl rfl⟩, by decide, rfl,
     20, by decide, by decide +kernel⟩,
   ⟨20, .zeroCrossIn, .activeLow, some 500, lined 20 .zeroCrossIn State.reset, ⟨rfl, .inl rfl⟩, by decide,
     by decide +kernel, rfl, by decide +kernel⟩⟩

theorem witness_LineConfigureTakesEffectAtOnce_range :
    ∃ (line function polarity : Nat) (filter : Option Nat) (s : State),
      s.serves (.lineConfigure line function polarity filter) ∧
      ∃ v, filter = some v ∧ function = LineFunction.zeroCrossIn.code ∧ v = 501 :=
  ⟨20, LineFunction.zeroCrossIn.code, 1, some 501, State.reset, ⟨rfl, .inl rfl⟩, _, rfl, rfl, rfl⟩

theorem witness_NoticesCountAndReplaceDetail :
    (∃ (c : Instr) (s : State), c = .resetInputReleased ∧ s.port.resetHeld = true) ∧
    (∃ (c : Instr) (s : State), c = .restart ∧ s.serves .restart) :=
  ⟨⟨_, { State.reset with port := { State.reset.port with resetHeld := true } }, rfl, rfl⟩,
   ⟨_, State.reset, rfl, rfl, .inl rfl⟩⟩

theorem witness_ReadNoticesEmptiesThePendingSet :
    ∃ s : State, s.serves .readNotices ∧ 1 ≤ s.param .notifyThreshold :=
  ⟨State.reset, ⟨rfl, .inl rfl⟩, by decide +kernel⟩

theorem witness_NoticeLevelsSetTogether :
    (∃ (l : List (Nat × Nat)) (s : State), s.serves (.setNoticeLevels l) ∧ l ≠ [] ∧ noneTwice l = true ∧
      ∃ q ∈ l, q.1 = 0 ∨ 22 < q.1 ∨ 7 < q.2) ∧
    (∃ (l : List (Nat × Nat)) (s : State), s.serves (.setNoticeLevels l) ∧ l ≠ [] ∧ noneTwice l = true ∧
      ∀ q ∈ l, 1 ≤ q.1 ∧ q.1 ≤ 22 ∧ q.2 ≤ 7) :=
  ⟨⟨[(1, 7), (23, 0)], State.reset, ⟨rfl, .inl rfl⟩, by decide, by decide, by decide⟩,
   ⟨[(1, 0), (22, 7)], State.reset, ⟨rfl, .inl rfl⟩, by decide, by decide, by decide⟩⟩

theorem witness_SaveStoresTheSnapshot :
    (∃ s : State, s.serves .save ∧ s.store.saving = none) ∧
    (∃ (s : State) (w : SaveInFlight), s.serves .save ∧ s.port.resetHeld = false ∧
      s.store.saving = some w) :=
  ⟨⟨State.reset, ⟨rfl, .inl rfl⟩, rfl⟩,
   ⟨{ State.reset with store := { State.reset.store with
      saving := some { snapshot := Image.blank, since := 0 } } }, _, ⟨rfl, .inl rfl⟩, rfl, rfl⟩⟩
/-- A genset record bound to unit 0 of station 9. -/
def bound (i : SlotIx) (b : Body) (s : State) : State :=
  s.putRecord i { recordOf i b with binding := some { address := 9, unit := 0 } }

theorem witness_StationRequestsKeepTheDirectory :
    (∃ (a : Nat) (s : State), s.serves (.stationAdd a 1 1 1 2 0) ∧ a = 248) ∧
    (∃ (a : Nat) (s : State), s.serves (.stationAdd a 1 4 3 100 20) ∧ 1 ≤ a ∧ a ≤ 247 ∧
      ∃ (d : DirIx) (x : Station), s.stations[d] = some x ∧ x.address = a) ∧
    (∃ (a : Nat) (s : State), s.serves (.stationAdd a 1 1 1 2 0) ∧ 1 ≤ a ∧ a ≤ 247 ∧
      (∀ (d : DirIx) (x : Station), s.stations[d] = some x → x.address ≠ a) ∧
      ∀ d : DirIx, s.stations[d] ≠ none) ∧
    (∃ (a : Nat) (s : State) (d : DirIx), s.serves (.stationAdd a 1 1 1 2 0) ∧ 1 ≤ a ∧ a ≤ 247 ∧
      (∀ (d : DirIx) (x : Station), s.stations[d] = some x → x.address ≠ a) ∧
      s.stations[d] = none ∧ ∀ e : DirIx, e < d → s.stations[e] ≠ none) ∧
    (∃ (a : Nat) (s : State), s.serves (.stationDrop a) ∧
      ∀ (d : DirIx) (x : Station), s.stations[d] = some x → x.address ≠ a) ∧
    (∃ (a : Nat) (s : State) (d : DirIx) (x : Station), s.serves (.stationDrop a) ∧
      s.stations[d] = some x ∧ x.address = a ∧
      (∀ (e : DirIx) (y : Station), e < d → s.stations[e] = some y → y.address ≠ a) ∧
      ∃ i r b, s.record? i = some r ∧ r.binding = some b ∧ b.address = a) ∧
    (∃ (a : Nat) (s : State) (d : DirIx) (x : Station), s.serves (.stationDrop a) ∧
      s.stations[d] = some x ∧ x.address = a ∧
      (∀ (e : DirIx) (y : Station), e < d → s.stations[e] = some y → y.address ≠ a) ∧
      ∀ i r b, s.record? i = some r → r.binding = some b → b.address ≠ a) ∧
    (∃ (a : Nat) (changes : List (Nat × Nat)) (s : State) (d : DirIx) (x : Station),
      s.serves (.stationAmend a changes) ∧ noneTwice changes = true ∧ s.stations[d] = some x ∧
      x.address = a ∧ (∀ (e : DirIx) (y : Station), e < d → s.stations[e] = some y → y.address ≠ a) ∧
      ∃ q ∈ changes, stationFieldInRange q.1 q.2 = false) ∧
    (∃ (a : Nat) (changes : List (Nat × Nat)) (s : State) (d : DirIx) (x : Station),
      s.serves (.stationAmend a changes) ∧ noneTwice changes = true ∧ s.stations[d] = some x ∧
      x.address = a ∧ (∀ (e : DirIx) (y : Station), e < d → s.stations[e] = some y → y.address ≠ a) ∧
      ∀ q ∈ changes, stationFieldInRange q.1 q.2 = true) := by
  refine ⟨⟨248, State.reset, ⟨rfl, .inl rfl⟩, rfl⟩,
    ⟨9, stationed station State.reset, ⟨rfl, .inl rfl⟩, by decide, by decide, 0, station, rfl, rfl⟩,
    ⟨247, { State.reset with stations := Vector.replicate 32 (some station) }, ⟨rfl, .inl rfl⟩, by decide,
      by decide, ?_, by decide +kernel⟩,
    ⟨1, State.reset, 0, ⟨rfl, .inl rfl⟩, by decide, by decide,
      empty (f := fun d : DirIx => State.reset.stations[d]) (by decide +kernel), rfl, by decide +kernel⟩,
    ⟨9, State.reset, ⟨rfl, .inl rfl⟩, empty (f := fun d : DirIx => State.reset.stations[d]) (by decide +kernel)⟩,
    ⟨9, bound 5 (.genset genset) (stationed station State.reset), 0, station, ⟨rfl, .inl rfl⟩, rfl, rfl, noneBelow,
      5, _, _, rfl, rfl, rfl⟩,
    ⟨9, stationed station State.reset, 0, station, ⟨rfl, .inl rfl⟩, rfl, rfl, noneBelow, ?_⟩,
    ⟨9, [(1, 3), (4, 101)], stationed station State.reset, 0, station, ⟨rfl, .inl rfl⟩, by decide, rfl, rfl, noneBelow,
      by decide⟩,
    ⟨9, [(1, 3), (2, 4), (3, 1), (4, 2), (5, 20)], stationed station State.reset, 0, station, ⟨rfl, .inl rfl⟩, by decide,
      rfl, rfl, noneBelow, by decide⟩⟩
  · intro d x h
    have e : (Vector.replicate 32 (some station))[d] = some x := h
    simp at e
    subst e
    decide
  · intro i r b h
    exact empty (f := State.reset.record?) (P := fun _ r => r.binding = some b → b.address ≠ 9)
      (by decide +kernel) i r h

theorem witness_StationRequestsKeepTheDirectory_codes :
    (∃ (cls access : Nat) (s : State), s.serves (.stationAdd 9 cls 1 access 50 10) ∧ 3 < cls) ∧
    (∃ (changes : List (Nat × Nat)) (s : State), s.serves (.stationAmend 9 changes) ∧
      ∀ (d : DirIx) (x : Station), s.stations[d] = some x → x.address ≠ 9) :=
  ⟨⟨4, 3, State.reset, ⟨rfl, .inl rfl⟩, by decide⟩,
   ⟨[(2, 4)], State.reset, ⟨rfl, .inl rfl⟩,
     empty (f := fun d : DirIx => State.reset.stations[d]) (by decide +kernel)⟩⟩

/-- The fields of a REGISTER of a feeder on lines 10 and 12. -/
def feederFields : List (Nat × Nat) := [(1, 8), (3, 3), (4, 1), (5, 150), (6, 10), (8, 12)]

/-- The state with a feeder in every slot. -/
def fullOfFeeders : State :=
  { State.reset with
    slots := Vector.replicate 64 { gen := 1, record := some (recordOf 7 (.feeder feeder)) } }

/-- The state after reset with one record, RETIRING and bound to unit 0 of station 9. -/
def leaving (i : SlotIx) (b : Body) : State :=
  State.reset.putRecord i { recordOf i b with lifecycle := .retiring, binding := some { address := 9, unit := 0 } }

/-- The record a REGISTER starts from, with the fields given. -/
def registered (k : Kind) (fields : List (Nat × Nat)) : Record :=
  ({ lifecycle := .provisional, tag := 0, binding := none, lastReport := none, fresh := false,
     body := k.blankBody } : Record).given fields

/-- No binding is named, so none fails. -/
theorem unbound {s : State} {self : Option SlotIx} {k : Kind} {fields : List (Nat × Nat)}
    (h : ∀ v, (2, v) ∉ fields) (e : Status) : ¬ s.bindingFails self k fields e := by
  rintro ⟨v, hv, -⟩; exact h v hv

/-- The names of a record pass when its roles take different lines of their functions, no other record has
its lines, and it names neither a binding nor a tag that another holds. -/
theorem named {s : State} {self : Option SlotIx} {k : Kind} {fields : List (Nat × Nat)} {r : Record}
    (hb : ∀ e, ¬ s.bindingFails self k fields e)
    (hl : ∀ q ∈ r.roles, s.lines[q.2].function = roleFunction q.1)
    (hr : ∀ p ∈ r.roles, ∀ q ∈ r.roles, p.2 = q.2 → p.1 = q.1)
    (ho : ∀ i q, some i ≠ self → s.record? i = some q → (∀ p ∈ r.roles, p.2 ∉ q.lines) ∧
      (1, q.tag) ∉ fields) (e : Status) : ¬ s.namingFails self k fields r e := by
  rintro (h | ⟨-, ⟨n, l, ⟨hm, -, h⟩, -⟩ | ⟨-, -, v, i, q, hv, hi, hq, rfl⟩⟩)
  · exact hb e h
  · rcases h with ⟨h, -⟩ | ⟨-, -, ⟨i, q, hi, hq, h⟩ | ⟨m, hmn, h⟩⟩
    · exact h (hl (n, l) hm)
    · exact (ho i q hi hq).1 (n, l) hm h
    · exact hmn (hr (m, l) h (n, l) hm rfl)
  · exact (ho i q hi hq).2 hv

theorem feeder_ranges : rangesFit .feeder feederFields (registered .feeder feederFields) := by
  refine ⟨by simp [feederFields, fieldFits], ?_⟩
  intro g h; cases h

theorem feeder_required : ∀ n ∈ Kind.feeder.required, ∃ v, (n, v) ∈ feederFields := by
  intro n h
  have : n = 1 ∨ n = 3 ∨ n = 4 ∨ n = 5 ∨ n = 6 := by simpa [Kind.required] using h
  rcases this with rfl | rfl | rfl | rfl | rfl
  · exact ⟨8, by decide⟩
  · exact ⟨3, by decide⟩
  · exact ⟨1, by decide⟩
  · exact ⟨150, by decide⟩
  · exact ⟨10, by decide⟩

theorem witness_RegisterCreatesTheRecord :
    (∃ (kind : Nat) (fields : List (Nat × Nat)) (s : State), s.serves (.register kind fields) ∧ kind = 4) ∧
    (∃ (k : Kind) (fields : List (Nat × Nat)) (s : State), s.serves (.register k.code fields) ∧
      noneTwice fields = false) ∧
    (∃ (k : Kind) (fields : List (Nat × Nat)) (s : State), s.serves (.register k.code fields) ∧
      noneTwice fields = true ∧ ∃ q ∈ fields, q.1 ∉ k.codes) ∧
    (∃ (k : Kind) (fields : List (Nat × Nat)) (s : State), s.serves (.register k.code fields) ∧
      noneTwice fields = true ∧ (∀ q ∈ fields, q.1 ∈ k.codes) ∧
      ∃ n ∈ k.required, ∀ v, (n, v) ∉ fields) ∧
    (∃ (k : Kind) (fields : List (Nat × Nat)) (s : State), s.serves (.register k.code fields) ∧
      noneTwice fields = true ∧ (∀ q ∈ fields, q.1 ∈ k.codes) ∧
      (∀ n ∈ k.required, ∃ v, (n, v) ∈ fields) ∧ k.cap ≤ s.kindCount k) ∧
    (∃ fields : List (Nat × Nat), noneTwice fields = true ∧ (∀ q ∈ fields, q.1 ∈ Kind.feeder.codes) ∧
      (∀ n ∈ Kind.feeder.required, ∃ v, (n, v) ∈ fields) ∧
      State.reset.kindCount .feeder < Kind.feeder.cap ∧
      ¬ rangesFit .feeder fields (registered .feeder fields)) ∧
    (∃ (s : State) (e : Status), s.serves (.register Kind.feeder.code ((2, 9) :: feederFields)) ∧
      s.namingFails none .feeder ((2, 9) :: feederFields) (registered .feeder ((2, 9) :: feederFields)) e) ∧
    (∃ s : State, s.serves (.register Kind.feeder.code feederFields) ∧ noneTwice feederFields = true ∧
      (∀ q ∈ feederFields, q.1 ∈ Kind.feeder.codes) ∧ s.kindCount .feeder < Kind.feeder.cap ∧
      (∀ e, ¬ s.namingFails none .feeder feederFields (registered .feeder feederFields) e) ∧
      s.record? 0 = none ∧ ∀ j, j < (0 : SlotIx) → (s.record? j).isSome = true) := by
  refine ⟨⟨4, [], State.reset, ⟨rfl, .inl rfl⟩, rfl⟩,
    ⟨.feeder, [(1, 8), (1, 9)], State.reset, ⟨rfl, .inl rfl⟩, by decide⟩,
    ⟨.feeder, [(9, 0)], State.reset, ⟨rfl, .inl rfl⟩, by decide, by decide⟩,
    ⟨.feeder, [(1, 8)], State.reset, ⟨rfl, .inl rfl⟩, by decide, by decide, 3, by decide, by simp⟩,
    ⟨.feeder, feederFields, fullOfFeeders, ⟨rfl, .inl rfl⟩, by decide, by decide, feeder_required,
      by decide +kernel⟩,
    ⟨(3, 16) :: feederFields.filter (fun q => q.1 != 3), by decide, by decide, ?_, by decide +kernel, ?_⟩,
    ⟨State.reset, .outOfRange, ⟨rfl, .inl rfl⟩, .inl ⟨9, by decide, by decide, .inl ⟨?_, rfl⟩⟩⟩,
    ⟨wired State.reset, ⟨rfl, .inl rfl⟩, by decide, by decide, by decide +kernel,
      named (unbound (by simp [feederFields])) (by decide +kernel) (by decide) ?_, rfl, by decide⟩⟩
  · intro n h
    have : n = 1 ∨ n = 3 ∨ n = 4 ∨ n = 5 ∨ n = 6 := by simpa [Kind.required] using h
    rcases this with rfl | rfl | rfl | rfl | rfl
    · exact ⟨8, by decide⟩
    · exact ⟨16, by decide⟩
    · exact ⟨1, by decide⟩
    · exact ⟨150, by decide⟩
    · exact ⟨10, by decide⟩
  · rintro ⟨h, -⟩
    have := h (3, 16) (by decide)
    simp [fieldFits] at this
  · exact empty (f := fun d : DirIx => State.reset.stations[d]) (by decide +kernel)
  · intro i q _ h
    exact absurd h (by rw [(by decide +kernel : ∀ i, (wired State.reset).record? i = none) i]; nofun)

/-- A table that holds one record holds none in another slot. -/
theorem noOther {α : Type} {f : SlotIx → Option α} {i : SlotIx} (h : ∀ j, j ≠ i → f j = none) {j : SlotIx}
    {x : α} (hj : some j ≠ some i) (e : f j = some x) : False := by
  rw [h j (fun e => hj (congrArg some e))] at e; cases e

/-- A TRIPPED feeder whose trip pulse is active, line 13 free as a trip output. -/
def tripping : State :=
  (lined 13 .tripOut (wired (feederIn .tripped))).modLine 10 (fun x => { x with driven := true, pulse := some 200 })

theorem witness_AmendChangesTheNamedFields :
    (∃ (h : Handle) (fields : List (Nat × Nat)) (s : State) (i : SlotIx) (r : Record),
      s.serves (.amend h fields) ∧ s.resolve h = some i ∧ s.record? i = some r ∧
      noneTwice fields = false) ∧
    (∃ (h : Handle) (fields : List (Nat × Nat)) (s : State) (i : SlotIx) (r : Record),
      s.serves (.amend h fields) ∧ noneTwice fields = true ∧ s.resolve h = some i ∧
      s.record? i = some r ∧ ∃ q ∈ fields, q.1 ∉ r.body.kind.codes) ∧
    (∃ (h : Handle) (fields : List (Nat × Nat)) (s : State) (i : SlotIx) (r : Record),
      s.serves (.amend h fields) ∧ s.resolve h = some i ∧ s.record? i = some r ∧
      (∀ q ∈ fields, q.1 ∈ r.body.kind.codes) ∧ ¬ rangesFit r.body.kind fields (r.given fields)) ∧
    (∃ (h : Handle) (fields : List (Nat × Nat)) (s : State) (i : SlotIx) (r : Record),
      s.serves (.amend h fields) ∧ s.resolve h = some i ∧ s.record? i = some r ∧
      (∀ q ∈ fields, q.1 ∈ r.body.kind.codes) ∧ rangesFit r.body.kind fields (r.given fields) ∧
      ∃ q ∈ fields, r.fieldLocked q.1) ∧
    (∃ (h : Handle) (fields : List (Nat × Nat)) (s : State) (i : SlotIx) (r : Record) (e : Status),
      s.serves (.amend h fields) ∧ s.resolve h = some i ∧ s.record? i = some r ∧
      rangesFit r.body.kind fields (r.given fields) ∧ (∀ q ∈ fields, ¬ r.fieldLocked q.1) ∧
      s.namingFails (some i) r.body.kind fields (r.given fields) e) ∧
    (∃ (s : State) (r : Record), s.serves (.amend h7 [(6, 13)]) ∧ s.resolve h7 = some 7 ∧
      s.record? 7 = some r ∧ s.lines[(10 : LineIx)].pulse = some 200 ∧
      rangesFit r.body.kind [(6, 13)] (r.given [(6, 13)]) ∧ ¬ r.fieldLocked 6 ∧
      ∀ e, ¬ s.namingFails (some 7) r.body.kind [(6, 13)] (r.given [(6, 13)]) e) ∧
    (∃ (s : State) (r : Record), s.serves (.amend h5 [(2, 265)]) ∧ s.resolve h5 = some 5 ∧
      s.record? 5 = some r ∧ (r.given [(2, 265)]).binding ≠ r.binding ∧
      rangesFit r.body.kind [(2, 265)] (r.given [(2, 265)]) ∧ ¬ r.fieldLocked 2 ∧
      ∀ e, ¬ s.namingFails (some 5) r.body.kind [(2, 265)] (r.given [(2, 265)]) e) := by
  refine ⟨⟨h7, [(3, 1), (3, 2)], feederIn .closed, 7, _, ⟨rfl, .inl rfl⟩, rfl, rfl, by decide⟩,
    ⟨h7, [(9, 0)], feederIn .closed, 7, _, ⟨rfl, .inl rfl⟩, by decide, rfl, rfl, by decide⟩,
    ⟨h7, [(3, 16)], feederIn .closed, 7, _, ⟨rfl, .inl rfl⟩, rfl, rfl, by decide, ?_⟩,
    ⟨h7, [(6, 13)], feederIn .closed, 7, _, ⟨rfl, .inl rfl⟩, rfl, rfl, by decide, ⟨?_, nofun⟩, (6, 13),
      by decide, ?_⟩,
    ⟨h7, [(2, 9)], feederIn .tripped, 7, _, .outOfRange, ⟨rfl, .inl rfl⟩, rfl, rfl, ⟨?_, nofun⟩, ?_,
      .inl ⟨9, by decide, by decide, .inl ⟨?_, rfl⟩⟩⟩,
    ⟨tripping, recordOf 7 (.feeder { feeder with state := .tripped }), ⟨rfl, .inl rfl⟩, rfl, rfl, rfl,
      ⟨?_, nofun⟩, ?_, named (unbound (by simp)) (by decide +kernel) (by decide) ?_⟩,
    ⟨stationed station (wired (gensetIn .stopped)), recordOf 5 (.genset genset), ⟨rfl, .inl rfl⟩, rfl, rfl,
      by decide, ⟨?_, ?_⟩, ?_, named ?_ (by decide +kernel) (by decide) ?_⟩⟩
  · rintro ⟨h, -⟩
    have := h (3, 16) (by decide)
    simp [fieldFits, recordOf, Body.kind] at this
  · simp [fieldFits, recordOf, Body.kind]
  · simp [Record.fieldLocked, recordOf, feeder]
  · simp [fieldFits, recordOf, Body.kind]
  · simp [Record.fieldLocked, recordOf]
  · exact empty (f := fun d : DirIx => (feederIn .tripped).stations[d]) (by decide +kernel)
  · simp [fieldFits, recordOf, Body.kind]
  · simp [Record.fieldLocked, recordOf]
  · exact fun i q hi h => (noOther (i := 7) (f := tripping.record?) (by decide +kernel) hi h).elim
  · simp [fieldFits, recordOf, Body.kind]
  · intro g h
    have : g = genset := by simpa [Record.given, recordOf, given] using h.symm
    subst this; decide
  · simp [Record.fieldLocked, recordOf, genset]
  · rintro e ⟨v, hv, -, h⟩
    obtain rfl : v = 265 := by simpa using hv
    rcases h with ⟨h, -⟩ | ⟨d, x, hx, -, -, h⟩
    · exact h 0 station rfl rfl
    · have hd : x = station := by
        have hs : ∀ d : DirIx, d ≠ 0 → (stationed station (wired (gensetIn .stopped))).stations[d] = none := by
          decide +kernel
        by_cases h0 : d = 0
        · subst h0; exact (Option.some.inj hx).symm
        · rw [hs d h0] at hx; cases hx
      subst hd
      rcases h with ⟨h, -⟩ | ⟨-, -, h⟩ | ⟨-, -, -, i, q, hi, hq, -⟩
      · exact absurd h (by decide)
      · exact h (.inl ⟨rfl, rfl, rfl⟩)
      · exact noOther (i := 5) (f := (stationed station (wired (gensetIn .stopped))).record?) (by decide +kernel)
          hi hq
  · exact fun i q hi h => (noOther (i := 5)
      (f := (stationed station (wired (gensetIn .stopped))).record?) (by decide +kernel) hi h).elim

theorem witness_FreeingASlotClearsIt :
    (∃ (i : SlotIx) (r : Record) (s : State), s.record? i = some r ∧ s.gen i = 1022) ∧
    (∃ (i : SlotIx) (r : Record) (s : State), s.record? i = some r ∧ s.gen i = 1023) ∧
    (∃ (i : SlotIx) (r : Record) (s : State), s.record? i = some r ∧ s.shu.recloseCandidate = some i) :=
  ⟨⟨5, recordOf 5 (.genset genset), { State.reset with slots := State.reset.slots.set 5 { gen := 1022, record := some (recordOf 5 (.genset genset)) } },
     rfl, rfl⟩,
   ⟨5, recordOf 5 (.genset genset), { State.reset with slots := State.reset.slots.set 5 { gen := 1023, record := some (recordOf 5 (.genset genset)) } },
     rfl, rfl⟩,
   ⟨7, recordOf 7 (.feeder feeder), { feederIn .closed with shu := { State.reset.shu with recloseCandidate := some 7 } }, rfl, rfl⟩⟩

/-- The state with a plan step stored at position 0, the plan of length 1. -/
def planned (x : PlanStep) (s : State) : State :=
  { s with rsq := { s.rsq with steps := s.rsq.steps.set 0 (some x), length := 1 } }

/-- No plan step is stored. -/
theorem noSteps {s : State} (h : ∀ p : PosIx, s.rsq.steps[p] = none) {P : PlanStep → Handle → Prop} :
    ∀ (p : PosIx) (x : PlanStep) (g : Handle), s.rsq.steps[p] = some x → x.action.target = some g → P x g := by
  intro p x g e
  rw [h p] at e
  cases e

/-- Results of an evaluation with a headroom. -/
def results (headroom : Int) : Results :=
  { load := 300, headroom := headroom, required := 200, allowance := 0, startDemand := 0, shedDemand := 0 }

/-- Two gensets ONLINE, with results standing. -/
def twoOnline (headroom : Int) : State :=
  { placed 6 (.genset { genset with state := .online, runLine := 20 }) (gensetIn .online) with
    blu := { State.reset.blu with grid := .normal, results := some (results headroom) } }

theorem witness_RetireByKindAndState :
    (∃ (h : Handle) (s : State) (i : SlotIx) (r : Record) (p : PosIx) (x : PlanStep),
      s.serves (.retire h) ∧ s.resolve h = some i ∧ s.record? i = some r ∧ s.rsq.steps[p] = some x ∧
      x.action.target = some (s.handleOf i)) ∧
    (∀ (st : GensetState) (s : State), s = gensetIn st →
      s.serves (.retire h5) ∧ s.resolve h5 = some 5 ∧ s.genset? 5 = some { genset with state := st } ∧
      s.blu.results = none ∧
      (∀ (p : PosIx) (x : PlanStep) (g : Handle), s.rsq.steps[p] = some x → x.action.target = some g →
        s.resolve g ≠ some 5)) ∧
    (∃ (s : State) (r : Record), s.serves (.retire h5) ∧ s.resolve h5 = some 5 ∧
      s.record? 5 = some r ∧ r.lifecycle = .retiring ∧ ∀ p : PosIx, s.rsq.steps[p] = none) ∧
    (∃ (s : State) (x : Results) (g : Genset), s.serves (.retire h5) ∧ s.resolve h5 = some 5 ∧
      s.genset? 5 = some g ∧ g.state = .online ∧ s.blu.results = some x ∧ s.otherOnline 5 = true ∧
      x.headroom - g.rated - s.retiringRated 5 < (x.required : Int) + s.param .stopMargin) ∧
    (∃ (s : State) (x : Results) (g : Genset), s.serves (.retire h5) ∧ s.resolve h5 = some 5 ∧
      s.genset? 5 = some g ∧ g.state = .online ∧ s.blu.results = some x ∧ s.otherOnline 5 = true ∧
      (x.required : Int) + s.param .stopMargin ≤ x.headroom - g.rated - s.retiringRated 5 ∧ s.quiet) ∧
    (∃ (s : State) (r : Record) (p : Pv), s.serves (.retire h6) ∧ s.resolve h6 = some 6 ∧
      s.record? 6 = some r ∧ r.body = .pv p ∧ r.lifecycle = .active ∧
      ∀ x u, s.boundTo 6 = some (x, u) → x.reach ≠ .unreachable) ∧
    (∀ (st : FeederState) (s : State), s = feederIn st →
      s.serves (.retire h7) ∧ s.resolve h7 = some 7 ∧ s.feeder? 7 = some { feeder with state := st }) := by
  refine ⟨⟨h7, planned { action := .closeFeeder h7, timeout := 0, onFailure := .abort } (feederIn .closed), 7, _, 0, _,
      ⟨rfl, .inl rfl⟩, by decide +kernel, rfl, rfl, rfl⟩, ?_,
    ⟨State.reset.putRecord 5 { recordOf 5 (.genset genset) with lifecycle := .retiring }, _, ⟨rfl, .inl rfl⟩,
      by decide +kernel, rfl, rfl, by decide +kernel⟩,
    ⟨twoOnline 799, _, _, ⟨rfl, .inl rfl⟩, by decide +kernel, rfl, rfl, rfl, by decide +kernel, by decide +kernel⟩,
    ⟨twoOnline 800, _, _, ⟨rfl, .inl rfl⟩, by decide +kernel, rfl, rfl, rfl, by decide +kernel, by decide +kernel, rfl, rfl⟩,
    ⟨placed 6 (.pv pv) State.reset, _, pv, ⟨rfl, .inl rfl⟩, by decide +kernel, rfl, rfl, rfl, ?_⟩, ?_⟩
  · rintro st s rfl
    refine ⟨⟨rfl, .inl rfl⟩, rfl, rfl, rfl, noSteps (s := gensetIn st) ?_⟩
    revert st; intro st; cases st <;> decide +kernel
  · intro x u h
    have e : (placed 6 (.pv pv) State.reset).boundTo 6 = none := by decide +kernel
    rw [e] at h; cases h
  · rintro st s rfl
    exact ⟨⟨rfl, .inl rfl⟩, rfl, rfl⟩

theorem witness_HoldsCountAndDisarm :
    (∃ (mask : BitVec 64) (s : State), s.serves (.holdAdd mask) ∧ ∃ i f, mask.getLsbD (i : SlotIx).val = true ∧
      s.feeder? i = some f ∧ f.hold = 15) ∧
    (∃ (mask : BitVec 64) (s : State), s.serves (.holdDrop mask) ∧ ∃ i f, mask.getLsbD (i : SlotIx).val = true ∧
      s.feeder? i = some f ∧ f.hold = 0) :=
  ⟨⟨128, placed 7 (.feeder { feeder with hold := 15 }) State.reset, ⟨rfl, .inl rfl⟩, 7, _, by decide, rfl, rfl⟩,
   ⟨128, feederIn .closed, ⟨rfl, .inl rfl⟩, 7, _, by decide, rfl, rfl⟩⟩

theorem witness_FeederRequestsAct :
    ∀ (st : FeederState) (g : GridState) (s : State), s = inGrid g (feederIn st) →
      s.resolve h7 = some 7 ∧ s.feeder? 7 = some { feeder with state := st } ∧ s.serves (.trip h7) ∧
      s.serves (.reclose h7) ∧ s.serves (.clearFault h7) ∧ s.blu.grid = g ∧
      s.lines[feeder.tripLine].pulse = none ∧ s.lines[(11 : LineIx)].window = none := by
  rintro st g s rfl
  exact ⟨rfl, rfl, ⟨rfl, .inl rfl⟩, ⟨rfl, .inl rfl⟩, ⟨rfl, .inl rfl⟩, rfl, rfl, rfl⟩

theorem witness_GensetRequestsAct :
    (∀ (st : GensetState) (g : GridState) (s : State), s = inGrid g (gensetIn st) →
      s.resolve h5 = some 5 ∧ s.genset? 5 = some { genset with state := st } ∧ s.serves (.start h5) ∧
      s.serves (.stop h5) ∧ s.serves (.clearLockout h5) ∧ s.blu.grid = g ∧
      s.lifecycle? 5 ≠ some .retiring ∧ s.quiet ∧ s.gsq.permitHolder = none) ∧
    (gensetIn .stopped).placesUsed < (gensetIn .stopped).param .startLimit ∧
    (∀ st : GensetState, (gensetIn st).noPermit) ∧
    (∃ s : State, s.genset? 5 = some genset ∧ s.resolve h5 = some 5 ∧ s.serves (.start h5) ∧
      s.param .startLimit ≤ s.placesUsed) ∧
    (∃ (s : State) (g x : Genset) (j : SlotIx), s.serves (.stop h5) ∧ s.genset? 5 = some g ∧
      g.state = .online ∧ j ≠ 5 ∧ s.genset? j = some x ∧ x.state = .online ∧ s.quiet) := by
  refine ⟨?_, by decide +kernel, ?_,
    ⟨placed 6 (.genset { genset with state := .resting }) (gensetIn .stopped), rfl, by decide +kernel, ⟨rfl, .inl rfl⟩,
      by decide +kernel⟩,
    ⟨twoOnline 800, _, _, 6, ⟨rfl, .inl rfl⟩, rfl, rfl, by decide, rfl, rfl, rfl, rfl⟩⟩
  · rintro st g s rfl
    exact ⟨rfl, rfl, ⟨rfl, .inl rfl⟩, ⟨rfl, .inl rfl⟩, ⟨rfl, .inl rfl⟩, rfl, (by decide : some Lifecycle.active ≠ some .retiring), ⟨rfl, rfl⟩, rfl⟩
  · intro st; cases st <;> exact ⟨rfl, by decide +kernel⟩
/-! ### What the statements about the plan suppose -/

/-- A plan of one step in a plan state, the step in a status. -/
def planIn (st : PlanState) (x : PlanStep) (status : StepStatus) (s : State) : State :=
  { s with rsq := { s.rsq with
    steps := s.rsq.steps.set 0 (some x), length := 1, state := st,
    status := s.rsq.status.set 0 status } }

/-- A step that closes the feeder of slot 7, one that starts the genset of slot 5, and the two others. -/
def closeStep : PlanStep := { action := .closeFeeder h7, timeout := 5, onFailure := .skip }
def startStep : PlanStep := { action := .startGenset h5 true, timeout := 5, onFailure := .skip }
def settleStep : PlanStep := { action := .settle 1000, timeout := 0, onFailure := .abort }
def gateStep : PlanStep := { action := .gateReserve 100, timeout := 5, onFailure := .skip }

theorem witness_PlanSetTakesBothValues :
    (∃ (length autoRun : Nat) (s : State), autoRun ≤ 1 ∧ s.serves (.planSet length autoRun) ∧ 32 < length) ∧
    (∃ (length autoRun : Nat) (s : State), autoRun ≤ 1 ∧ s.serves (.planSet length autoRun) ∧
      length ≤ 32 ∧ s.rsq.state = .running ∧ length ≠ s.rsq.length) ∧
    (∃ (length autoRun : Nat) (s : State), autoRun ≤ 1 ∧ s.serves (.planSet length autoRun) ∧
      length ≤ 32 ∧ s.rsq.state ≠ .running ∧ s.rsq.state ≠ .paused) ∧
    (∃ (length autoRun : Nat) (s : State), autoRun ≤ 1 ∧ s.serves (.planSet length autoRun) ∧
      length ≤ 32 ∧ s.rsq.state = .paused ∧ length = s.rsq.length) ∧
    (∃ s s0 : State, s.expires .darkSettle s0 ∧ s0.rsq.autoRun = false) :=
  ⟨⟨33, 1, State.reset, by decide, ⟨rfl, .inl rfl⟩, by decide⟩,
   ⟨32, 1, planIn .running closeStep .active State.reset, by decide, ⟨rfl, .inl rfl⟩, by decide, rfl, by decide +kernel⟩,
   ⟨32, 0, State.reset, by decide, ⟨rfl, .inl rfl⟩, by decide, nofun, nofun⟩,
   ⟨1, 0, planIn .paused closeStep .active State.reset, by decide, ⟨rfl, .inl rfl⟩, by decide, rfl, rfl⟩,
   ⟨due .darkSettle State.reset, _, ⟨rfl, rfl⟩, rfl⟩⟩

theorem witness_PlanWriteStepChecksInOrder :
    (∃ (position : Nat) (s : State), s.serves (.planWriteStep position 4 none 0 600 1) ∧ position = 32) ∧
    (∃ (s : State), s.serves (.planWriteStep 31 4 (some h7) 0 600 1)) ∧
    (∃ (s : State), s.serves (.planWriteStep 0 0 none 0 0 0) ∧ s.rsq.state = .running ∧
      0 ≤ s.rsq.cursor.val) ∧
    (∃ (s : State), s.serves (.planWriteStep 31 2 (some h7) 0 0 1) ∧ s.rsq.state = .idle ∧
      s.resolve h7 = none) ∧
    (∃ (s : State) (r : Record), s.serves (.planWriteStep 31 1 (some h7) 0 0 1) ∧ s.rsq.state = .idle ∧
      s.resolve h7 = some 7 ∧ s.record? 7 = some r ∧ some r.body.kind ≠ some .genset) ∧
    (∃ (s : State) (r : Record), s.serves (.planWriteStep 31 1 (some h5) 0 0 1) ∧ s.rsq.state = .idle ∧
      s.resolve h5 = some 5 ∧ s.record? 5 = some r ∧ r.body.kind = .genset ∧ r.lifecycle = .retiring) ∧
    (∃ (s : State) (r : Record), s.serves (.planWriteStep 31 2 (some h7) 0 600 2) ∧ s.rsq.state = .paused ∧
      s.rsq.cursor.val < 31 ∧ s.resolve h7 = some 7 ∧ s.record? 7 = some r ∧ r.body.kind = .feeder ∧
      r.lifecycle ≠ .retiring) :=
  ⟨⟨32, State.reset, ⟨rfl, .inl rfl⟩, rfl⟩, ⟨State.reset, rfl, .inl rfl⟩,
   ⟨planIn .running closeStep .active State.reset, ⟨rfl, .inl rfl⟩, rfl, by decide⟩,
   ⟨State.reset, ⟨rfl, .inl rfl⟩, rfl, by decide +kernel⟩,
   ⟨feederIn .closed, _, ⟨rfl, .inl rfl⟩, rfl, by decide +kernel, rfl, by decide⟩,
   ⟨State.reset.putRecord 5 { recordOf 5 (.genset genset) with lifecycle := .retiring }, _, ⟨rfl, .inl rfl⟩, rfl,
     by decide +kernel, rfl, rfl, rfl⟩,
   ⟨planIn .paused closeStep .active (feederIn .closed), _, ⟨rfl, .inl rfl⟩, rfl, by decide +kernel, by decide +kernel,
     rfl, rfl, nofun⟩⟩

theorem witness_PlanRunAndAbort :
    (∃ s : State, s.planPasses = true) ∧ (∃ s : State, s.planPasses = false) ∧
    (∃ s : State, s.serves .planRun ∧ s.blu.grid ≠ .dark) ∧
    (∃ s : State, s.serves .planRun ∧ s.blu.grid = .dark ∧ s.rsq.state = .paused) ∧
    (∃ s : State, s.serves .planRun ∧ s.blu.grid = .dark ∧ s.rsq.state = .idle ∧ s.rsq.length = 0) ∧
    (∃ (s : State) (p : PosIx), s.serves .planRun ∧ s.blu.grid = .dark ∧ s.rsq.state = .idle ∧
      s.firstFailing = some p) ∧
    (∃ s : State, s.serves .planRun ∧ s.blu.grid = .dark ∧ s.rsq.state = .idle ∧ s.planPasses = true) ∧
    (∃ s : State, s.serves .planAbort ∧ s.rsq.state ≠ .running ∧ s.rsq.state ≠ .paused) ∧
    (∃ s : State, s.serves .planAbort ∧ s.rsq.state = .running) :=
  ⟨⟨planIn .idle startStep .pending (gensetIn .stopped), by decide +kernel⟩, ⟨State.reset, by decide +kernel⟩,
   ⟨State.reset, ⟨rfl, .inl rfl⟩, nofun⟩,
   ⟨inGrid .dark (planIn .paused closeStep .active State.reset), ⟨rfl, .inl rfl⟩, rfl, rfl⟩,
   ⟨inGrid .dark State.reset, ⟨rfl, .inl rfl⟩, rfl, rfl, rfl⟩,
   ⟨inGrid .dark (planIn .idle closeStep .pending State.reset), 0, ⟨rfl, .inl rfl⟩, rfl, rfl, by decide +kernel⟩,
   ⟨inGrid .dark (planIn .idle startStep .pending (gensetIn .stopped)), ⟨rfl, .inl rfl⟩, rfl, rfl, by decide +kernel⟩,
   ⟨State.reset, ⟨rfl, .inl rfl⟩, nofun, nofun⟩,
   ⟨planIn .running closeStep .active State.reset, ⟨rfl, .inl rfl⟩, rfl⟩⟩

/-- The step at the cursor of a plan of one step is ACTIVE, and the plan holds the steps it can come to. -/
theorem activeAlone {s : State} {x : PlanStep} (hs : s.rsq.state = .running ∨ s.rsq.state = .paused)
    (hc : s.rsq.cursor = 0) (hl : s.rsq.length = 1) (hx : s.rsq.steps[(0 : PosIx)] = some x)
    (hst : s.rsq.status[(0 : PosIx)] = .active) : s.active x ∧ s.planFilled := by
  refine ⟨⟨hs, by simpa only [hc] using hst, by simpa only [hc] using hx⟩, fun q hq => ?_⟩
  rw [hc, hl] at hq
  rcases hq with rfl | ⟨h, h'⟩
  · rw [hx]; rfl
  · have : (0 : Nat) < q.val := h
    omega

theorem witness_StepEventsEndTheActiveStep :
    (∃ (s s0 : State) (i : SlotIx), s.takes Message.gensetOnline? i s0 ∧ s.active startStep ∧
      s.planFilled ∧ s0.resolve h5 = some i) ∧
    (∃ (s s0 : State) (i : SlotIx), s.takes Message.gensetLockout? i s0 ∧ s.active startStep ∧
      s.planFilled ∧ s0.resolve h5 = some i) ∧
    (∃ (s s0 : State) (i : SlotIx), s.takes Message.feederClosed? i s0 ∧ s.active closeStep ∧
      s.planFilled ∧ s0.resolve h7 = some i ∧ s.rsq.state = .running ∧ s.blu.grid = .restoring) ∧
    (∃ (s s0 : State) (i : SlotIx), s.takes Message.feederFail? i s0 ∧ s.active closeStep ∧
      s.planFilled ∧ s0.resolve h7 = some i ∧ s.rsq.state = .paused) ∧
    (∃ s s0 : State, s.expires .stepTimeout s0 ∧ s.active closeStep ∧ s.planFilled) ∧
    (∃ s s0 : State, s.expires .stepSettle s0 ∧ s.rsq.state = .running ∧ s.active settleStep ∧
      s.planFilled) :=
  ⟨⟨mailed (.gensetOnline 5) (planIn .running startStep .active (gensetIn .online)), _, 5, ⟨rfl, _, rfl, rfl⟩,
     (activeAlone (.inl rfl) rfl rfl rfl rfl).1, (activeAlone (x := startStep) (.inl rfl) rfl rfl rfl rfl).2, rfl⟩,
   ⟨mailed (.gensetLockout 5) (planIn .running startStep .active (gensetIn .lockout)), _, 5, ⟨rfl, _, rfl, rfl⟩,
     (activeAlone (.inl rfl) rfl rfl rfl rfl).1, (activeAlone (x := startStep) (.inl rfl) rfl rfl rfl rfl).2, rfl⟩,
   ⟨mailed (.feederClosed 7) (inGrid .restoring (planIn .running closeStep .active (feederIn .closed))), _, 7,
     ⟨rfl, _, rfl, rfl⟩, (activeAlone (.inl rfl) rfl rfl rfl rfl).1,
     (activeAlone (x := closeStep) (.inl rfl) rfl rfl rfl rfl).2, rfl, rfl, rfl⟩,
   ⟨mailed (.feederFail 7) (planIn .paused closeStep .active (feederIn .closed)), _, 7, ⟨rfl, _, rfl, rfl⟩,
     (activeAlone (.inr rfl) rfl rfl rfl rfl).1, (activeAlone (x := closeStep) (.inr rfl) rfl rfl rfl rfl).2, rfl,
     rfl⟩,
   ⟨due .stepTimeout (planIn .running closeStep .active (feederIn .closed)), _, ⟨rfl, rfl⟩,
     (activeAlone (.inl rfl) rfl rfl rfl rfl).1, (activeAlone (x := closeStep) (.inl rfl) rfl rfl rfl rfl).2⟩,
   ⟨due .stepSettle (planIn .running settleStep .active State.reset), _, ⟨rfl, rfl⟩, rfl,
     (activeAlone (.inl rfl) rfl rfl rfl rfl).1, (activeAlone (x := settleStep) (.inl rfl) rfl rfl rfl rfl).2⟩⟩

/-- No step is ACTIVE in a plan that is neither RUNNING nor PAUSED. -/
theorem idlePlan {s : State} (h1 : s.rsq.state ≠ .running) (h2 : s.rsq.state ≠ .paused) (x : PlanStep) :
    ¬ s.active x := fun h => h.1.elim h1 h2

theorem witness_StepEventsEndTheActiveStep_none :
    (∃ (i : SlotIx) (s s0 : State), s.takes Message.gensetOnline? i s0 ∧ ∀ x, ¬ s.active x) ∧
    (∃ (i : SlotIx) (s s0 : State), s.takes Message.gensetLockout? i s0 ∧ ∀ x, ¬ s.active x) ∧
    (∃ (i : SlotIx) (s s0 : State), s.takes Message.feederClosed? i s0 ∧ ∀ x, ¬ s.active x) ∧
    (∃ (i : SlotIx) (s s0 : State), s.takes Message.feederFail? i s0 ∧ ∀ x, ¬ s.active x) ∧
    (∃ s s0 : State, s.expires .stepTimeout s0 ∧ ∀ x, ¬ s.active x) ∧
    (∃ s s0 : State, s.expires .stepSettle s0 ∧ s.rsq.state ≠ .paused ∧ ∀ x, ¬ s.active x) :=
  ⟨⟨5, mailed (.gensetOnline 5) State.reset, _, ⟨rfl, _, rfl, rfl⟩, idlePlan nofun nofun⟩,
   ⟨5, mailed (.gensetLockout 5) State.reset, _, ⟨rfl, _, rfl, rfl⟩, idlePlan nofun nofun⟩,
   ⟨7, mailed (.feederClosed 7) State.reset, _, ⟨rfl, _, rfl, rfl⟩, idlePlan nofun nofun⟩,
   ⟨7, mailed (.feederFail 7) State.reset, _, ⟨rfl, _, rfl, rfl⟩, idlePlan nofun nofun⟩,
   ⟨due .stepTimeout State.reset, _, ⟨rfl, rfl⟩, idlePlan nofun nofun⟩,
   ⟨due .stepSettle State.reset, _, ⟨rfl, rfl⟩, nofun, idlePlan nofun nofun⟩⟩

theorem witness_PlanPauseResumeAndDark :
    (∃ (s s0 : State) (k : StageIx), s.takes Message.stageRaiseRsq? k s0 ∧ s.rsq.state = .running) ∧
    (∃ (s s0 : State) (k : StageIx), s.takes Message.stageClearRsq? k s0 ∧ s.rsq.state = .paused ∧
      s.rsq.stageView[k] = true ∧ ∀ j, j ≠ k → s.rsq.stageView[j] = false) ∧
    (∃ (s s0 : State) (x : PlanStep), s.expires .stepSettle s0 ∧ s.rsq.state = .paused ∧
      s.rsq.steps[s.rsq.cursor] = some x ∧ s.rsq.status[s.rsq.cursor] = .active ∧
      x.action.kind = some .feeder) ∧
    (∃ s s0 : State, s.takes Message.darkRsq? () s0 ∧ s.rsq.state = .running) ∧
    (∃ s s0 : State, s.expires .darkSettle s0 ∧ s.rsq.autoRun = true ∧ s.blu.grid = .dark ∧
      s.rsq.live = false ∧ s.rsq.state = .idle ∧ s0.planPasses = false) ∧
    (∃ s s0 : State, s.expires .darkSettle s0 ∧ s.rsq.autoRun = true ∧ s.blu.grid = .dark ∧
      s.rsq.live = false ∧ s.rsq.state = .idle ∧ s0.planPasses = true) :=
  ⟨⟨mailed (.stageRaiseRsq 3) (planIn .running closeStep .active State.reset), _, 3, ⟨rfl, _, rfl, rfl⟩, rfl⟩,
   ⟨mailed (.stageClearRsq 0) { planIn .paused closeStep .active State.reset with
      rsq := { (planIn .paused closeStep .active State.reset).rsq with stageView := #v[true, false, false, false] } },
     _, 0, ⟨rfl, _, rfl, rfl⟩, rfl, rfl, by decide +kernel⟩,
   ⟨due .stepSettle (planIn .paused closeStep .active State.reset), _, closeStep, ⟨rfl, rfl⟩, rfl, rfl, rfl, rfl⟩,
   ⟨mailed .darkRsq (planIn .running closeStep .active State.reset), _, ⟨rfl, _, rfl, rfl⟩, rfl⟩,
   ⟨due .darkSettle (inGrid .dark { State.reset with rsq := { State.reset.rsq with autoRun := true } }), _, ⟨rfl, rfl⟩,
     rfl, rfl, rfl, rfl, by decide +kernel⟩,
   ⟨due .darkSettle (inGrid .dark { planIn .idle startStep .pending (gensetIn .stopped) with
      rsq := { (planIn .idle startStep .pending (gensetIn .stopped)).rsq with autoRun := true } }), _, ⟨rfl, rfl⟩,
     rfl, rfl, rfl, rfl, by decide +kernel⟩⟩

theorem witness_PlanPauseResumeAndDark_noAutoRun :
    (∃ s s0 : State, s.expires .darkSettle s0 ∧ s.rsq.autoRun = false) ∧
    (∃ s s0 : State, s.expires .darkSettle s0 ∧ s.rsq.autoRun = true ∧ s.blu.grid ≠ .dark) :=
  ⟨⟨due .darkSettle State.reset, _, ⟨rfl, rfl⟩, rfl⟩,
   ⟨due .darkSettle { State.reset with rsq := { State.reset.rsq with autoRun := true } }, _, ⟨rfl, rfl⟩, rfl, nofun⟩⟩

/-- A step that releases the plant of slot 6. -/
def releaseStep : PlanStep := { action := .releasePv { slot := 6, gen := 1 } 100, timeout := 0, onFailure := .skip }

theorem witness_PlanPauseResumeAndDark_kinds :
    (∀ (x : PlanStep) (status : StepStatus), ∃ s s0 : State, s.expires .stepSettle s0 ∧
      s.rsq.state = .paused ∧ s.rsq.steps[s.rsq.cursor] = some x ∧ s.rsq.status[s.rsq.cursor] = status) ∧
    (∃ (s s0 : State) (g : Genset), s.expires .stepSettle s0 ∧ s.rsq.state = .paused ∧
      s.rsq.steps[s.rsq.cursor] = some startStep ∧ s.rsq.status[s.rsq.cursor] = .active ∧
      s.resolve h5 = some 5 ∧ s.genset? 5 = some g ∧ s.blu.grid = .restoring ∧ s.rsq.orderGiven = false) ∧
    (∃ s s0 : State, s.expires .stepSettle s0 ∧ s.rsq.state = .paused ∧
      s.rsq.status[s.rsq.cursor] = .pending ∧ s.planFilled) := by
  refine ⟨fun x status => ⟨due .stepSettle (planIn .paused x status State.reset), _, ⟨rfl, rfl⟩, rfl, ?_, ?_⟩,
    ⟨due .stepSettle (inGrid .restoring (planIn .paused startStep .active (gensetIn .stopped))), _, _, ⟨rfl, rfl⟩,
      rfl, rfl, rfl, rfl, rfl, rfl, rfl⟩,
    ⟨due .stepSettle (planIn .paused closeStep .pending State.reset), _, ⟨rfl, rfl⟩, rfl, rfl, ?_⟩⟩
  · simp [due, planIn, State.reset]
  · simp [due, planIn, State.reset]
  · unfold State.planFilled; decide +kernel

/-- The plant of slot 6 and the feeder of slot 7, in RESTORING, with a plan of one ACTIVE step. -/
def restoring (x : PlanStep) (f : FeederState) : State :=
  inGrid .restoring (planIn .running x .active (placed 6 (.pv pv) (feederIn f)))

theorem witness_PlanTakesGridLiveAndHeadroom :
    (∃ s s0 : State, s.takes Message.gridRsq? (.dark, .restoring) s0 ∧ s.rsq.state = .running ∧
      s.blu.grid = .restoring ∧ s.rsq.status[s.rsq.cursor] = .pending ∧ s.planFilled) ∧
    (∃ s s0 : State, s.takes Message.gridRsq? (.dark, .restoring) s0 ∧
      s.rsq.status[s.rsq.cursor] = .active) ∧
    (∃ s s0 : State, s.takes Message.gridRsq? (.dark, .normal) s0 ∧ s.rsq.state = .paused) ∧
    (∃ s s0 : State, s.takes Message.gridRsq? (.restoring, .dark) s0) ∧
    (∃ s s0 : State, s.takes Message.liveRsq? () s0 ∧ ∀ x, ¬ s.active x) ∧
    (∃ s s0 : State, s.takes Message.liveRsq? () s0 ∧ s.active gateStep ∧ s.rsq.state = .paused) ∧
    (∃ s s0 : State, s.takes Message.liveRsq? () s0 ∧ s.active settleStep ∧ s.rsq.state = .running) ∧
    (∃ (s s0 : State) (g : Genset), s.takes Message.liveRsq? () s0 ∧ s.active startStep ∧
      s.rsq.state = .running ∧ s.resolve h5 = some 5 ∧ s.genset? 5 = some g ∧ s.rsq.orderGiven = false ∧
      s.blu.grid = .restoring) ∧
    (∃ (s s0 : State) (f : Nat), s.takes Message.frequency? f s0 ∧ ∀ x, ¬ s.active x) ∧
    (∃ (s s0 : State) (f : Nat), s.takes Message.frequency? f s0 ∧ s.active settleStep ∧
      s.rsq.state = .running ∧ f + s.param .liveBand < s.param .nominal) ∧
    (∃ (s s0 : State) (f : Nat), s.takes Message.frequency? f s0 ∧ s.active settleStep ∧
      s.rsq.state = .running ∧ f = s.param .nominal + s.param .liveBand ∧ s.rsq.live = true ∧
      s.isSet .stepSettle = false) :=
  ⟨⟨mailed (.gridRsq .dark .restoring) (inGrid .restoring (planIn .running settleStep .pending State.reset)), _,
     ⟨rfl, _, rfl, rfl⟩, rfl, rfl, rfl, by unfold State.planFilled; decide +kernel⟩,
   ⟨mailed (.gridRsq .dark .restoring) (planIn .running closeStep .active State.reset), _, ⟨rfl, _, rfl, rfl⟩, rfl⟩,
   ⟨mailed (.gridRsq .dark .normal) (planIn .paused closeStep .active State.reset), _, ⟨rfl, _, rfl, rfl⟩, rfl⟩,
   ⟨mailed (.gridRsq .restoring .dark) State.reset, _, ⟨rfl, _, rfl, rfl⟩⟩,
   ⟨mailed .liveRsq State.reset, _, ⟨rfl, _, rfl, rfl⟩, idlePlan nofun nofun⟩,
   ⟨mailed .liveRsq (planIn .paused gateStep .active State.reset), _, ⟨rfl, _, rfl, rfl⟩,
     (activeAlone (.inr rfl) rfl rfl rfl rfl).1, rfl⟩,
   ⟨mailed .liveRsq (planIn .running settleStep .active State.reset), _, ⟨rfl, _, rfl, rfl⟩,
     (activeAlone (.inl rfl) rfl rfl rfl rfl).1, rfl⟩,
   ⟨mailed .liveRsq (inGrid .restoring (planIn .running startStep .active (gensetIn .stopped))), _, _,
     ⟨rfl, _, rfl, rfl⟩, (activeAlone (.inl rfl) rfl rfl rfl rfl).1, rfl, rfl, rfl, rfl, rfl⟩,
   ⟨mailed (.frequency 50000) State.reset, _, 50000, ⟨rfl, _, rfl, rfl⟩, idlePlan nofun nofun⟩,
   ⟨mailed (.frequency 49499) (planIn .running settleStep .active State.reset), _, 49499, ⟨rfl, _, rfl, rfl⟩,
     (activeAlone (.inl rfl) rfl rfl rfl rfl).1, rfl, by decide +kernel⟩,
   ⟨mailed (.frequency 50500) { planIn .running settleStep .active State.reset with
      rsq := { (planIn .running settleStep .active State.reset).rsq with live := true } }, _, 50500,
     ⟨rfl, _, rfl, rfl⟩, (activeAlone (.inl rfl) rfl rfl rfl rfl).1, rfl, by decide +kernel, rfl,
     by decide +kernel⟩⟩

theorem witness_PlanTakesGridLiveAndHeadroom_results :
    (∀ (headroom : Int) (caps : List CapResult), ∃ s s0 : State,
      s.takes Message.rsqEvaluation? (headroom, caps) s0 ∧ s.active gateStep ∧ s.planFilled ∧
      s.rsq.state = .running) ∧
    (∀ (headroom : Int) (caps : List CapResult), ∃ s s0 : State,
      s.takes Message.rsqEvaluation? (headroom, caps) s0 ∧ s.active releaseStep ∧ s.planFilled ∧
      s.resolve { slot := 6, gen := 1 } = some 6) ∧
    (∀ (f : FeederState) (headroom : Int), ∃ s s0 : State,
      s.takes Message.rsqEvaluation? (headroom, []) s0 ∧ s.active closeStep ∧ s.planFilled ∧
      s.resolve h7 = some 7 ∧ s.feeder? 7 = some { feeder with state := f } ∧ s.rsq.state = .running ∧
      s.blu.grid = .restoring ∧ s.rsq.closeMade = false ∧ s.lines[feeder.tripLine].pulse = none ∧
      s.lines[(11 : LineIx)].window = none) ∧
    (∃ s s0 : State, s.takes Message.rsqEvaluation? (0, []) s0 ∧ ∀ x, ¬ s.active x) :=
  ⟨fun h c => ⟨mailed (.rsqEvaluation h c) (restoring gateStep .closed), _, ⟨rfl, _, rfl, rfl⟩,
     (activeAlone (.inl rfl) rfl rfl rfl rfl).1, (activeAlone (x := gateStep) (.inl rfl) rfl rfl rfl rfl).2, rfl⟩,
   fun h c => ⟨mailed (.rsqEvaluation h c) (restoring releaseStep .closed), _, ⟨rfl, _, rfl, rfl⟩,
     (activeAlone (.inl rfl) rfl rfl rfl rfl).1, (activeAlone (x := releaseStep) (.inl rfl) rfl rfl rfl rfl).2, rfl⟩,
   fun f h => ⟨mailed (.rsqEvaluation h []) (restoring closeStep f), _, ⟨rfl, _, rfl, rfl⟩,
     (activeAlone (.inl rfl) rfl rfl rfl rfl).1, (activeAlone (x := closeStep) (.inl rfl) rfl rfl rfl rfl).2, rfl,
     rfl, rfl, rfl, rfl, rfl, rfl⟩,
   ⟨mailed (.rsqEvaluation 0 []) State.reset, _, ⟨rfl, _, rfl, rfl⟩, idlePlan nofun nofun⟩⟩

/-! ### What the statements about the grid suppose -/

theorem witness_EvaluationStoresAndHandsOn :
    (∃ s s0 : State, s.expires .evaluation s0 ∧ s.blu.grid = .survey) ∧
    (∃ s s0 : State, s.expires .evaluation s0 ∧ s.blu.grid ≠ .survey ∧ s.blu.grid ≠ .dark) ∧
    (∃ s : State, s.port.resetHeld = false ∧ s.blu.reevaluation = true ∧ s.blu.grid = .restoring) :=
  ⟨⟨State.reset, _, ⟨rfl, rfl⟩, rfl⟩, ⟨inGrid .normal State.reset, _, ⟨rfl, rfl⟩, nofun, nofun⟩,
   ⟨inGrid .restoring (gensetIn .online).askReevaluation, rfl, rfl, rfl⟩⟩

/-- The plants of the worked cut of section 4.6: P2 of 380 kW in slot 4 and P3 of 250 kW in slot 7. -/
def plants : List (SlotIx × Pv) := [(4, { pv with available := some 380 }), (7, { pv with available := some 250 })]

theorem witness_ClassWiseCutTotalsTheAllowance :
    ∃ (ps : List (SlotIx × Pv)) (allowance : Nat), (ps.map Prod.fst).Nodup ∧ (∀ p ∈ ps, p.2.cls ≤ 7) ∧
      allowance < pavSum ps ∧ pavSum ps ≤ allowance + 70 :=
  ⟨plants, 560, by decide, by decide, by decide +kernel, by decide +kernel⟩

theorem witness_ProRataCutPlacesTheRemainder :
    ∃ (ps : List (SlotIx × Pv)) (x : Nat), (ps.map Prod.fst).Nodup ∧ x < pavSum ps :=
  ⟨plants, 629, by decide, by decide +kernel⟩

/-- A PV plant in class 7, its station reachable and its report fresh, beside an ONLINE genset. -/
def sunny : State :=
  inGrid .normal ((gensetIn .online).putRecord 6 { recordOf 6 (.pv { pv with cls := 7 }) with
    binding := some { address := 9, unit := 0 }, lastReport := some 0, fresh := true })

theorem witness_EvaluationKeepsPvWithinTheAllowance :
    (∃ s s0 t : State, s.expires .evaluation s0 ∧ s.blu.grid ≠ .survey ∧ s.blu.grid ≠ .dark ∧
      s.recordsInRange ∧ exec .evalPeriodExpiry s = .next t ∧ (∃ i p, (i, p) ∈ s0.distributable) ∧
      s0.sharedAllowance < pavSum s0.distributable) ∧
    (∃ s s0 t : State, s.expires .evaluation s0 ∧ s.blu.grid = .restoring ∧ s.recordsInRange ∧
      exec .evalPeriodExpiry s = .next t ∧ ∃ i p, (i, p) ∈ s0.fixedPlants) := by
  refine ⟨⟨{ sunny with bus := { sunny.bus with frequency := 51500 } }, _, _, ⟨rfl, rfl⟩, nofun, nofun,
      ⟨by decide +kernel, ?_, ?_⟩, rfl, ⟨6, { pv with cls := 7 }, by decide +kernel⟩, by decide +kernel⟩,
    ⟨inGrid .restoring (placed 6 (.pv pv) State.reset), _, _, ⟨rfl, rfl⟩, rfl, ⟨by decide +kernel, ?_, ?_⟩, rfl,
      6, pv, by decide +kernel⟩⟩ <;> (intro a h; cases h)

theorem witness_GridStateMovesOnEvents :
    (∀ (g : GridState) (s : State), s = mailed (.stageRaiseBlu 3) (inGrid g State.reset) →
      ∃ s0, s.takes Message.stageRaiseBlu? 3 s0 ∧ s.blu.grid = g) ∧
    (∀ (g : GridState) (s : State), s = mailed .darkBlu (inGrid g State.reset) →
      ∃ s0, s.takes Message.darkBlu? () s0 ∧ s.blu.grid = g) ∧
    (∀ (g : GridState) (s : State), s = mailed .liveBlu (inGrid g State.reset) →
      ∃ s0, s.takes Message.liveBlu? () s0 ∧ s.blu.grid = g ∧ s.rsq.state ≠ .complete) ∧
    (∃ s s0 : State, s.takes Message.liveBlu? () s0 ∧ s.blu.grid = .restoring ∧ s.rsq.state = .complete) ∧
    (∀ (g : GridState) (s : State), s = mailed .planStart (inGrid g State.reset) →
      ∃ s0, s.takes Message.planStart? () s0 ∧ s.blu.grid = g) ∧
    (∀ (g : GridState) (b live : Bool) (s : State), s = mailed (.planEnd b)
        (inGrid g { State.reset with bus := { State.reset.bus with live := live } }) →
      ∃ s0, s.takes Message.planEnd? b s0 ∧ s.blu.grid = g ∧ s.bus.live = live) ∧
    (∃ s s0 : State, s.expires .stopDelay s0 ∧ s.blu.stopCandidate = none) ∧
    (∀ (g : GridState) (st : GensetState) (s : State), s = due .stopDelay
        { gensetIn st with blu := { State.reset.blu with grid := g, stopCandidate := some 5 } } →
      ∃ s0, s.expires .stopDelay s0 ∧ s.blu.stopCandidate = some 5 ∧ s.blu.grid = g ∧
        s.genset? 5 = some { genset with state := st } ∧ s.lifecycle? 5 ≠ some .retiring ∧ s.quiet) := by
  refine ⟨?_, ?_, ?_,
    ⟨mailed .liveBlu (inGrid .restoring (planIn .complete closeStep .done State.reset)), _, ⟨rfl, _, rfl, rfl⟩, rfl, rfl⟩,
    ?_, ?_, ⟨due .stopDelay State.reset, _, ⟨rfl, rfl⟩, rfl⟩, ?_⟩
  · rintro g s rfl; exact ⟨_, ⟨rfl, _, rfl, rfl⟩, rfl⟩
  · rintro g s rfl; exact ⟨_, ⟨rfl, _, rfl, rfl⟩, rfl⟩
  · rintro g s rfl; exact ⟨_, ⟨rfl, _, rfl, rfl⟩, rfl, nofun⟩
  · rintro g s rfl; exact ⟨_, ⟨rfl, _, rfl, rfl⟩, rfl⟩
  · rintro g b live s rfl; exact ⟨_, ⟨rfl, _, rfl, rfl⟩, rfl, rfl⟩
  · rintro g st s rfl
    exact ⟨_, ⟨rfl, rfl⟩, rfl, rfl, rfl, (by decide : some Lifecycle.active ≠ some .retiring), rfl, rfl⟩

/-- A stage raise takes SHORT to EMERGENCY with results whose start demand is above an effective one of 0. -/
theorem witness_GridStateMovesOnEvents_demand :
    ∃ (s s0 : State) (r : Results), s.takes Message.stageRaiseBlu? 3 s0 ∧ s.blu.grid = .short ∧
      s.blu.effStart = 0 ∧ s.blu.results = some r ∧ 0 < r.startDemand :=
  ⟨mailed (.stageRaiseBlu 3) { State.reset with blu := { State.reset.blu with
    grid := .short, results := some { load := 0, headroom := 0, required := 50, allowance := 0,
                                      startDemand := 50, shedDemand := 0 } } }, _, _, ⟨rfl, _, rfl, rfl⟩, rfl,
    rfl, rfl, by decide⟩

/-! ### What the statements about gensets and feeders suppose -/

theorem witness_GensetTimersMoveTheSequence :
    (∀ (st : GensetState) (s : State), s = due (.gensetTimer 5) (gensetIn st) →
      ∃ s0, s.expires (.gensetTimer 5) s0 ∧ s.genset? 5 = some { genset with state := st } ∧
        s.lifecycle? 5 ≠ some .retiring ∧ s.quiet ∧ s.filtered genset.breakerLine = false) ∧
    (∀ st : GensetState, (due (.gensetTimer 5) (gensetIn st)).noPermit) ∧
    (∃ s s0 : State, s.expires (.gensetTimer 5) s0 ∧
      s.genset? 5 = some { genset with state := .runUp } ∧ s.filtered genset.breakerLine = true ∧
      s.quiet ∧ s.noPermit) := by
  refine ⟨?_, ?_, ⟨due (.gensetTimer 5) (level 2 true (gensetIn .runUp)), _, ⟨rfl, rfl⟩, rfl, rfl, ⟨rfl, rfl⟩, rfl,
    by decide +kernel⟩⟩
  · rintro st s rfl
    exact ⟨_, ⟨rfl, rfl⟩, rfl, (by decide : some Lifecycle.active ≠ some .retiring), ⟨rfl, rfl⟩, rfl⟩
  · intro st; cases st <;> exact ⟨rfl, by decide +kernel⟩

theorem witness_GensetInputsMoveTheSequence :
    (∀ (st : GensetState) (b : Bool) (s : State), s = mailed (.breakerGsq 2 b 0) (level 2 b (gensetIn st)) →
      ∃ s0, s.takes Message.breakerGsq? (2, b) s0 ∧ s.genset? 5 = some { genset with state := st } ∧
        s.filtered 2 = b ∧ s.lifecycle? 5 ≠ some .retiring ∧ s.quiet ∧ s.gsq.permitHolder = none) ∧
    (∀ (st : GensetState) (b : Bool) (s : State), s = mailed (.readyGsq 1 b 0) (gensetIn st) →
      ∃ s0, s.takes Message.readyGsq? (1, b) s0 ∧ s.genset? 5 = some { genset with state := st } ∧
        s.lifecycle? 5 ≠ some .retiring ∧ s.quiet ∧ s.gsq.permitHolder = none) ∧
    (∀ (st : GensetState) (j : SlotIx), j ≠ 5 → (gensetIn st).genset? j = none) ∧
    (∀ (st : GensetState) (b : Bool), (mailed (.breakerGsq 2 b 0) (level 2 b (gensetIn st))).noPermit) ∧
    (mailed (.breakerGsq 2 false 0) (gensetIn .cooldown)).isSet (.gensetTimer 5) = false := by
  refine ⟨?_, ?_, ?_, ?_, by decide +kernel⟩
  · rintro st b s rfl
    exact ⟨_, ⟨rfl, _, rfl, rfl⟩, rfl, rfl, (by decide : some Lifecycle.active ≠ some .retiring), ⟨rfl, rfl⟩, rfl⟩
  · rintro st b s rfl
    exact ⟨_, ⟨rfl, _, rfl, rfl⟩, rfl, (by decide : some Lifecycle.active ≠ some .retiring), ⟨rfl, rfl⟩, rfl⟩
  · intro st; cases st <;> decide +kernel
  · intro st b; cases st <;> cases b <;> exact ⟨rfl, by decide +kernel⟩

theorem witness_GensetInputsMoveTheSequence_cooling :
    ∃ s s0 : State, s.takes Message.breakerGsq? (2, false) s0 ∧ s.isSet (.gensetTimer 5) = true ∧
      s.genset? 5 = some { genset with state := .cooldown } ∧ (∀ j, j ≠ 5 → s.genset? j = none) ∧
      s.filtered 2 = false ∧ s.lifecycle? 5 ≠ some .retiring ∧ s.quiet ∧ s.noPermit :=
  ⟨mailed (.breakerGsq 2 false 0) (due (.gensetTimer 5) (gensetIn .cooldown)), _, ⟨rfl, _, rfl, rfl⟩, rfl, rfl,
    by decide +kernel, rfl, (by decide : some Lifecycle.active ≠ some .retiring), ⟨rfl, rfl⟩, rfl, by decide +kernel⟩

/-- A dead bus in DARK: a genset whose breaker is open, its lines wired, and the permit free. -/
def deadBus (st : GensetState) : State := inGrid .dark (wired (gensetIn st))

/-- A genset in slot 5 on a bus where the one in slot 6 is in SYNCING and holds the permit. -/
def permitElsewhere (st : GensetState) : State :=
  let s := placed 6 (.genset { genset with
    state := .syncing, runLine := 20, readyLine := 21, breakerLine := 22, permitLine := some 23 }) (deadBus st)
  { s with gsq := { s.gsq with permitHolder := some 6 } }

theorem deadBus_grantable (st : GensetState) : (deadBus st).grantable := by
  cases st <;> exact ⟨.inl rfl, rfl, by decide +kernel, rfl⟩

theorem witness_GensetTimersMoveTheSequence_permit :
    (∃ s s0 : State, s.expires (.gensetTimer 5) s0 ∧ s.genset? 5 = some { genset with state := .runUp } ∧
      s.filtered genset.breakerLine = false ∧ genset.permitLine.isSome = true ∧ s.grantable) ∧
    (∃ s s0 : State, s.expires (.gensetTimer 5) s0 ∧ s.genset? 5 = some { genset with state := .syncing } ∧
      s.lifecycle? 5 ≠ some .retiring ∧ s.gsq.permitHolder = some 6) :=
  have ar : some Lifecycle.active ≠ some .retiring := by decide
  ⟨⟨due (.gensetTimer 5) (deadBus .runUp), _, ⟨rfl, rfl⟩, rfl, rfl, rfl, deadBus_grantable .runUp⟩,
   ⟨due (.gensetTimer 5) (permitElsewhere .syncing), _, ⟨rfl, rfl⟩, rfl, ar, rfl⟩⟩

theorem witness_GensetInputsMoveTheSequence_permit :
    (∀ (st : GensetState) (s : State), s = mailed (.breakerGsq 2 true 0) (level 2 true (permitElsewhere st)) →
      ∃ s0, s.takes Message.breakerGsq? (2, true) s0 ∧ s.genset? 5 = some { genset with state := st } ∧
        s.gsq.permitHolder = some 6) ∧
    (∀ (st : GensetState) (j : SlotIx) (x : Genset), j ≠ 5 → (permitElsewhere st).genset? j = some x →
      x.breakerLine ≠ 2) ∧
    (∃ s s0 : State, s.takes Message.breakerGsq? (2, false) s0 ∧
      s.genset? 5 = some { genset with state := .online } ∧ s.filtered 2 = false ∧ s.grantable) ∧
    (∃ s s0 : State, s.takes Message.breakerGsq? (2, false) s0 ∧
      s.genset? 5 = some { genset with state := .online } ∧ s.filtered 2 = true) := by
  refine ⟨?_, ?_, ⟨mailed (.breakerGsq 2 false 0) (deadBus .online), _, ⟨rfl, _, rfl, rfl⟩, rfl, rfl,
      deadBus_grantable .online⟩,
    ⟨mailed (.breakerGsq 2 false 0) (level 2 true (deadBus .online)), _, ⟨rfl, _, rfl, rfl⟩, rfl, rfl⟩⟩
  · rintro st s rfl
    exact ⟨_, ⟨rfl, _, rfl, rfl⟩, rfl, rfl⟩
  · have h : ∀ st j, j ≠ 5 → ((permitElsewhere st).genset? j).all (fun x => x.breakerLine != 2) = true := by
      intro st; cases st <;> decide +kernel
    intro st j x hj e
    have := h st j hj
    rw [e] at this
    simpa using this

theorem witness_StartDemandStartsByRank :
    (∃ (kw : Nat) (s s0 : State), s.takes Message.startDemand? kw s0 ∧ s.gsq.waitList = [] ∧
      kw = s.capacityComing) ∧
    (∃ (kw : Nat) (s s0 : State), s.takes Message.startDemand? kw s0 ∧ s.gsq.waitList = [] ∧
      s.blu.grid = .short ∧ s.capacityComing < kw ∧ kw = s.capacityComing + genset.rated ∧ s.placesUsed < s.param .startLimit ∧
      s.genset? 5 = some genset ∧ s.lifecycle? 5 = some .active ∧
      ∀ j, j ≠ 5 → s.genset? j = none) :=
  ⟨⟨0, mailed (.startDemand 0) State.reset, _, ⟨rfl, _, rfl, rfl⟩, rfl, by decide +kernel⟩,
   ⟨500, mailed (.startDemand 500) (inGrid .short (gensetIn .stopped)), _, ⟨rfl, _, rfl, rfl⟩, rfl, rfl, by decide +kernel, by decide +kernel,
     by decide +kernel, rfl, rfl, by decide +kernel⟩⟩

theorem witness_StartDemandStartsByRank_places :
    (∃ (s s0 : State) (g : Genset), s.takes Message.readyGsq? (1, true) s0 ∧ s.genset? 5 = some g ∧
      g.readyLine = 1 ∧ (∀ j, j ≠ 5 → s.genset? j = none) ∧ g.state = .cranking) ∧
    (∃ (s s0 : State) (g : Genset), s.expires (.gensetTimer 5) s0 ∧ s.genset? 5 = some g ∧
      g.state = .cranking ∧ s.lifecycle? 5 ≠ some .retiring ∧ s.param .crankAttempts ≤ g.attempts + 1) :=
  ⟨⟨mailed (.readyGsq 1 true 0) (gensetIn .cranking), _, _, ⟨rfl, _, rfl, rfl⟩, rfl, rfl, by decide +kernel, rfl⟩,
   ⟨due (.gensetTimer 5) (placed 5 (.genset { genset with state := .cranking, attempts := 2 }) State.reset), _, _,
     ⟨rfl, rfl⟩, rfl, rfl, (by decide : some Lifecycle.active ≠ some .retiring), by decide +kernel⟩⟩

theorem witness_PermitFollowsTheBus :
    (∃ (s s0 : State) (i : SlotIx) (g : Genset) (l : LineIx), s.takes Message.liveGsq? () s0 ∧
      s.gsq.permitHolder = some i ∧ s.genset? i = some g ∧ g.permitLine = some l) ∧
    (∀ (old new : GridState) (s : State), s = mailed (.gridGsq old new)
        { gensetIn .syncing with gsq := { State.reset.gsq with permitHolder := some 5, waitList := [5] } } →
      ∃ s0, s.takes Message.gridGsq? (old, new) s0 ∧ s.gsq.permitHolder = some 5) ∧
    (∃ s s0 : State, s.takes Message.gridGsq? (.dark, .restoring) s0 ∧ s.permitFree = false) ∧
    (∃ (s s0 : State) (i : SlotIx) (g : Genset), s.takes Message.gridGsq? (.dark, .restoring) s0 ∧
      s.blu.grid = .restoring ∧ s.gsq.live = false ∧
      (∀ l : LineIx, s.lines[l].function = .genBreakerIn → s.lines[l].filtered = false) ∧
      s.gsq.permitHolder = none ∧ s.gsq.waiters = [i] ∧ s.genset? i = some g) := by
  refine ⟨⟨mailed .liveGsq { gensetIn .syncing with gsq := { State.reset.gsq with permitHolder := some 5 } }, _, 5, _, 3,
      ⟨rfl, _, rfl, rfl⟩, rfl, rfl, rfl⟩, ?_,
    ⟨mailed (.gridGsq .dark .restoring) State.reset, _, ⟨rfl, _, rfl, rfl⟩, by decide +kernel⟩,
    ⟨mailed (.gridGsq .dark .restoring) (inGrid .restoring { gensetIn .syncing with
      gsq := { State.reset.gsq with waiters := [5] } }), _, 5, _, ⟨rfl, _, rfl, rfl⟩, rfl, rfl, by decide +kernel, rfl, rfl,
      rfl⟩⟩
  rintro old new s rfl
  exact ⟨_, ⟨rfl, _, rfl, rfl⟩, rfl⟩

theorem witness_PermitFollowsTheBus_releases :
    (∃ s s0 : State, s.takes Message.breakerGsq? (9, true) s0 ∧ s.gsq.permitHolder = none ∧
      ∀ j, s.genset? j = none) ∧
    (∃ (s s0 : State) (g : Genset), s.takes Message.breakerGsq? (9, true) s0 ∧ s.gsq.permitHolder = some 5 ∧
      s.genset? 5 = some g ∧ g.breakerLine ≠ 9 ∧ ∀ j, j ≠ 5 → s.genset? j = none) ∧
    (∃ (s s0 : State) (g : Genset), s.takes Message.breakerGsq? (2, true) s0 ∧ s.genset? 5 = some g ∧
      g.breakerLine = 2 ∧ g.state = .stopped ∧ ∀ j, j ≠ 5 → s.genset? j = none) ∧
    (∃ s s0 : State, s.takes Message.breakerGsq? (9, false) s0 ∧ ∀ j, s.genset? j = none) ∧
    (∃ (s s0 : State) (g : Genset), s.takes Message.breakerGsq? (2, true) s0 ∧
      s.gsq.permitHolder = some 5 ∧ s.genset? 5 = some g ∧ g.state = .syncing ∧ g.breakerLine = 2 ∧
      (∀ j, j ≠ 5 → s.genset? j = none) ∧ s.lines[(2 : LineIx)].function = .genBreakerIn ∧
      s.filtered 2 = true ∧ g.permitLine ≠ some g.runLine ∧ s.lifecycle? 5 ≠ some .retiring ∧ s.quiet) ∧
    (∃ (s s0 : State) (g : Genset), s.expires (.gensetTimer 5) s0 ∧ s.gsq.permitHolder = some 5 ∧
      s.genset? 5 = some g ∧ g.state = .syncing ∧ s.lifecycle? 5 ≠ some .retiring ∧ s.quiet) ∧
    (∃ (s : State) (g : Genset), s.serves (.stop h5) ∧ s.resolve h5 = some 5 ∧
      s.gsq.permitHolder = some 5 ∧ s.genset? 5 = some g ∧ g.state = .syncing ∧
      s.lifecycle? 5 ≠ some .retiring ∧ s.quiet) ∧
    (∃ (s s0 : State) (g : Genset), s.takes Message.gridGsq? (.restoring, .dark) s0 ∧
      s.gsq.permitHolder = some 5 ∧ s.genset? 5 = some g) :=
  have ar : some Lifecycle.active ≠ some .retiring := by decide
  ⟨⟨mailed (.breakerGsq 9 true 0) State.reset, _, ⟨rfl, _, rfl, rfl⟩, rfl, by decide +kernel⟩,
   ⟨mailed (.breakerGsq 9 true 0) permitted, _, _, ⟨rfl, _, rfl, rfl⟩, rfl, rfl, by decide, by decide +kernel⟩,
   ⟨mailed (.breakerGsq 2 true 0) (gensetIn .stopped), _, _, ⟨rfl, _, rfl, rfl⟩, rfl, rfl, rfl, by decide +kernel⟩,
   ⟨mailed (.breakerGsq 9 false 0) State.reset, _, ⟨rfl, _, rfl, rfl⟩, by decide +kernel⟩,
   ⟨mailed (.breakerGsq 2 true 0) (level 2 true permitted), _, _, ⟨rfl, _, rfl, rfl⟩, rfl, rfl, rfl, rfl,
     by decide +kernel, rfl, rfl, by decide, ar, ⟨rfl, rfl⟩⟩,
   ⟨due (.gensetTimer 5) permitted, _, _, ⟨rfl, rfl⟩, rfl, rfl, rfl, ar, ⟨rfl, rfl⟩⟩,
   ⟨permitted, _, ⟨rfl, .inl rfl⟩, by decide +kernel, rfl, rfl, rfl, ar, ⟨rfl, rfl⟩⟩,
   ⟨mailed (.gridGsq .restoring .dark) permitted, _, _, ⟨rfl, _, rfl, rfl⟩, rfl, rfl⟩⟩

theorem witness_PermitFollowsTheBus_joins :
    ∃ s s0 : State, s.expires (.gensetTimer 5) s0 ∧ s.genset? 5 = some { genset with state := .runUp } ∧
      genset.permitLine = some 3 ∧ s.filtered genset.breakerLine = false ∧ s.grantable ∧ s.gsq.waiters = [] ∧
      s.quiet :=
  ⟨due (.gensetTimer 5) (deadBus .runUp), _, ⟨rfl, rfl⟩, rfl, rfl, rfl, deadBus_grantable .runUp, rfl, rfl, rfl⟩

/-- A genset that comes to SYNCING on a dead bus takes the free permit (R97, R98). -/
theorem test_permitAtSyncing :
    ((after (.warmTimeExpiry 5) (due (.gensetTimer 5) (deadBus .runUp))).gsq.permitHolder,
      (after (.warmTimeExpiry 5) (due (.gensetTimer 5) (deadBus .runUp))).lines[(3 : LineIx)].driven) =
      (some 5, true) := by
  decide +kernel

theorem witness_ShedEvaluationArmsAndAppends :
    (∀ (g : GridState) (s : State), s = mailed (.shuEvaluation 100 1000 (-100) 200 g)
        (inGrid g (feederIn .closed)) →
      ∃ s0, s.takes Message.shuEvaluation? (100, 1000, -100, 200, g) s0 ∧ s.blu.grid = g) ∧
    (∃ (s s0 : State) (f : Feeder), s.takes Message.shuEvaluation? (0, 1000, 500, 200, .normal) s0 ∧
      s.blu.grid = .normal ∧ s.recordsInRange ∧ s.lifecycle? 7 = some .active ∧ s.feeder? 7 = some f ∧ f.state = .tripped ∧
      f.closeLine.isSome = true ∧ f.cause = some .shedReserve ∧ ∀ j, j ≠ 7 → s.feeder? j = none) := by
  constructor
  · rintro g s rfl
    exact ⟨_, ⟨rfl, _, rfl, rfl⟩, rfl⟩
  · refine ⟨mailed (.shuEvaluation 0 1000 500 200 .normal) (inGrid .normal
      (placed 7 (.feeder { feeder with state := .tripped, cause := some .shedReserve }) State.reset)), _, _,
      ⟨rfl, _, rfl, rfl⟩, rfl, ⟨by decide +kernel, ?_, ?_⟩, rfl, rfl, rfl, rfl, rfl, by decide +kernel⟩ <;>
    · intro a h; cases h

/-- The state with the feeder of slot 7 in the batch. -/
def batched (f : Feeder) : State :=
  { placed 7 (.feeder f) State.reset with shu := { State.reset.shu with batch := [7] } }

/-- A hand-over in EMERGENCY that asks for 100 kW, the last batch pulse as given. -/
def shortOfReserve (last : Option Time) : State :=
  mailed (.shuEvaluation 100 1000 (-100) 200 .emergency)
    (inGrid .emergency { feederIn .closed with shu := { State.reset.shu with lastPulse := last } })

theorem witness_ShedEvaluationArmsAndAppends_stagger :
    ∀ last : Option Time, last = none ∨ last = some 0 → ∃ (s s0 t : State),
      s.takes Message.shuEvaluation? (100, 1000, -100, 200, .emergency) s0 ∧ s.blu.grid = .emergency ∧
      s.shu.lastPulse = last ∧ s.shu.batch = [] ∧ s.isSet .stagger = false ∧ exec .shuEvaluationHandover s = .next t ∧
      t.shu.batch ≠ [] ∧ (s.timeS - 0).toNat < s.param .staggerGap := by
  rintro last (rfl | rfl)
  · exact ⟨shortOfReserve none, _, _, ⟨rfl, _, rfl, rfl⟩, rfl, rfl, rfl, rfl, rfl, by decide +kernel, by decide +kernel⟩
  · exact ⟨shortOfReserve (some 0), _, _, ⟨rfl, _, rfl, rfl⟩, rfl, rfl, rfl, rfl, rfl, by decide +kernel,
      by decide +kernel⟩

/-- One feeder of 150 kW covers the reserve of 100 kW, and none is left for the armed sets: SHED_SHORTFALL is raised for each stage, the last leaving its number (R109, R110). -/
theorem test_shortfallNotices :
    (after .shuEvaluationHandover (shortOfReserve none)).shu.batch = [7] ∧
    (after .shuEvaluationHandover (shortOfReserve none)).shu.reserveShort = false ∧
    ((after .shuEvaluationHandover (shortOfReserve none)).ntu.held[NoticeKind.shedShortfall]) =
      some { detail := some 4, count := 4 } := by decide +kernel

theorem witness_StaggerPulsesTheHead :
    (∃ s s0 : State, s.expires .stagger s0 ∧ s.shu.batch = []) ∧
    (∃ (s s0 : State) (f : Feeder), s.expires .stagger s0 ∧ s.shu.batch = [7] ∧ s.feeder? 7 = some f ∧
      f.state = .tripPending ∧ f.hold = 0 ∧ f.sheddable = true) ∧
    (∃ (s s0 : State) (f : Feeder), s.expires .stagger s0 ∧ s.shu.batch = [7] ∧ s.feeder? 7 = some f ∧
      f.state = .tripPending ∧ f.sheddable = false) :=
  ⟨⟨due .stagger State.reset, _, ⟨rfl, rfl⟩, rfl⟩,
   ⟨due .stagger (batched { feeder with state := .tripPending }), _, _, ⟨rfl, rfl⟩, rfl, rfl, rfl, rfl, rfl⟩,
   ⟨due .stagger (batched { feeder with state := .tripPending, sheddable := false }), _, _, ⟨rfl, rfl⟩, rfl, rfl, rfl,
     rfl⟩⟩

/-- The batch of slots 7 and 8, slot 7 with a hold, on lines of their own. -/
def batchOfTwo : State :=
  placed 8 (.feeder { feeder with state := .tripPending, tripLine := 13, closeLine := none, statusLine := none })
    { batched { feeder with state := .tripPending, hold := 1 } with
      shu := { State.reset.shu with batch := [7, 8] } }

/-- A head that fails its recheck leaves, and the member behind it is pulsed in the same expiry (R114). -/
theorem test_staggerNextHead :
    (after .staggerExpiry (due .stagger batchOfTwo)).feeder? 7 = some { feeder with hold := 1 } ∧
    ((after .staggerExpiry (due .stagger batchOfTwo)).feeder? 8).map Feeder.state = some .opening ∧
    (after .staggerExpiry (due .stagger batchOfTwo)).shu.batch = [] := by decide +kernel

theorem witness_FiringAndDarkTripFeeders :
    (∀ (g : GridState) (s : State), s = mailed (.stageRaiseShu 3) (inGrid g { feederIn .closed with
        shu := { State.reset.shu with armed := #v[[], [], [], [7]] } }) →
      ∃ s0, s.takes Message.stageRaiseShu? 3 s0 ∧ s.blu.grid = g ∧
        s.shu.armed[(3 : StageIx)] = [7] ∧ s.feeder? 7 = some feeder) ∧
    (∀ (old new : GridState) (st : FeederState) (s : State),
      s = mailed (.gridShu old new) (feederIn st) →
      ∃ s0, s.takes Message.gridShu? (old, new) s0 ∧ s.feeder? 7 = some { feeder with state := st }) := by
  constructor
  · rintro g s rfl; exact ⟨_, ⟨rfl, _, rfl, rfl⟩, rfl, rfl, rfl⟩
  · rintro old new st s rfl; exact ⟨_, ⟨rfl, _, rfl, rfl⟩, rfl⟩

theorem witness_FiringAndDarkTripFeeders_lines :
    (∃ s s0 : State, s.takes Message.stageRaiseShu? 3 s0 ∧ s.blu.grid = .normal ∧ s.namesSound ∧
      s.shu.armed[(3 : StageIx)] = [7] ∧ s.feeder? 7 = some feeder) ∧
    (∃ s s0 : State, s.takes Message.gridShu? (.normal, .dark) s0 ∧ s.namesSound ∧
      s.feeder? 7 = some feeder) := by
  have sound : Machine.namesSound (wired (feederIn .closed)).record?
      (fun l => (wired (feederIn .closed)).lines[l].function) :=
    soundAlone 7 (recordOf 7 (.feeder feeder)) rfl (by decide +kernel) (by decide) (by decide +kernel)
  exact ⟨⟨mailed (.stageRaiseShu 3) (inGrid .normal { wired (feederIn .closed) with
      shu := { State.reset.shu with armed := #v[[], [], [], [7]] } }), _, ⟨rfl, _, rfl, rfl⟩, rfl,
      ⟨sound, nofun, nofun⟩, rfl, rfl⟩,
    ⟨mailed (.gridShu .normal .dark) (wired (feederIn .closed)), _, ⟨rfl, _, rfl, rfl⟩, ⟨sound, nofun, nofun⟩, rfl⟩⟩

theorem witness_FeederStatusAndConfirm :
    (∀ (st : FeederState) (b : Bool) (s : State), s = mailed (.statusShu 12 b 0) (feederIn st) →
      ∃ s0, s.takes Message.statusShu? (12, b) s0 ∧ s.feeder? 7 = some { feeder with state := st } ∧
        feeder.statusLine = some 12) ∧
    (∀ (st : FeederState) (j : SlotIx), j ≠ 7 → (feederIn st).feeder? j = none) ∧
    (∀ (st : FeederState) (s : State), s = due (.breakerConfirm 7) (feederIn st) →
      ∃ s0, s.expires (.breakerConfirm 7) s0 ∧ s.feeder? 7 = some { feeder with state := st }) := by
  refine ⟨?_, ?_, ?_⟩
  · rintro st b s rfl; exact ⟨_, ⟨rfl, _, rfl, rfl⟩, rfl, rfl⟩
  · intro st; cases st <;> decide +kernel
  · rintro st s rfl; exact ⟨_, ⟨rfl, rfl⟩, rfl⟩

/-- The reclose candidate is a feeder tripped by reserve shedding. -/
def candidate : State :=
  inGrid .normal { placed 7 (.feeder { feeder with state := .tripped, cause := some .shedReserve })
    (State.reset.setParam .closeDelay 500) with shu := { State.reset.shu with recloseCandidate := some 7 } }

/-- A feeder without a status line, its trip pulse or its close window in progress. -/
def pulsing (st : FeederState) : State :=
  (placed 7 (.feeder { feeder with state := st, statusLine := none }) State.reset).modLine 10
    (fun x => { x with driven := true, pulse := some 200 })

def windowed (st : FeederState) (started : Bool) : State :=
  (placed 7 (.feeder { feeder with state := st, statusLine := none }) State.reset).modLine 11
    (fun x => { x with driven := started, window := some { start := 100, stop := 300, started := started } })

theorem witness_ReclosePulsesAndWindows :
    (∃ s s0 : State, s.expires .recloseDelay s0 ∧ s.shu.recloseCandidate = none) ∧
    (∃ (s s0 : State) (f : Feeder), s.expires .recloseDelay s0 ∧ s.shu.recloseCandidate = some 7 ∧
      s.feeder? 7 = some f ∧ f.closeLine = some 11 ∧ s.blu.grid = .short) ∧
    (∃ (s s0 : State) (f : Feeder), s.expires .recloseDelay s0 ∧ s.shu.recloseCandidate = some 7 ∧
      s.feeder? 7 = some f ∧ f.closeLine = some 11 ∧ s.blu.grid = .normal ∧ f.state = .tripped ∧
      s.lifecycle? 7 = some .active ∧ f.cause = some .shedReserve ∧ s.lines[f.tripLine].pulse = none ∧
      s.lines[(11 : LineIx)].window = none ∧ s.param .closeDelay ≠ 0) ∧
    (∃ (s : State) (f : Feeder) (e : Time), s.port.resetHeld = false ∧ s.feeder? 7 = some f ∧
      s.lines[f.tripLine].pulse = some e ∧ f.statusLine = none ∧ f.state = .opening) ∧
    (∃ (s : State) (f : Feeder) (w : CloseWindow), s.port.resetHeld = false ∧ s.feeder? 7 = some f ∧
      f.closeLine = some 11 ∧ s.lines[(11 : LineIx)].window = some w ∧ w.started = false) ∧
    (∃ (s : State) (f : Feeder) (w : CloseWindow), s.port.resetHeld = false ∧ s.feeder? 7 = some f ∧
      f.closeLine = some 11 ∧ s.lines[(11 : LineIx)].window = some w ∧ w.started = true ∧
      f.statusLine = none ∧ f.state = .closing) :=
  ⟨⟨due .recloseDelay State.reset, _, ⟨rfl, rfl⟩, rfl⟩,
   ⟨due .recloseDelay (inGrid .short candidate), _, _, ⟨rfl, rfl⟩, rfl, rfl, rfl, rfl⟩,
   ⟨due .recloseDelay candidate, _, _, ⟨rfl, rfl⟩, rfl, rfl, rfl, rfl, rfl, rfl, rfl, rfl, rfl, by decide +kernel⟩,
   ⟨pulsing .opening, _, 200, rfl, rfl, rfl, rfl, rfl⟩, ⟨windowed .closePending false, _, _, rfl, rfl, rfl, rfl, rfl⟩,
   ⟨windowed .closing true, _, _, rfl, rfl, rfl, rfl, rfl, rfl, rfl⟩⟩

theorem witness_ReclosePulsesAndWindows_atOnce :
    (∃ (s s0 : State) (f : Feeder), s.expires .recloseDelay s0 ∧ s.shu.recloseCandidate = some 7 ∧
      s.feeder? 7 = some f ∧ f.closeLine = some 11 ∧ s.blu.grid = .normal ∧ f.state = .tripped ∧
      s.lifecycle? 7 = some .active ∧ f.cause = some .shedReserve ∧ s.lines[f.tripLine].pulse = none ∧
      s.lines[(11 : LineIx)].window = none ∧ s.param .closeDelay = 0) ∧
    (∃ (s s0 : State) (f : Feeder), s.expires .recloseDelay s0 ∧ s.shu.recloseCandidate = some 7 ∧
      s.feeder? 7 = some f ∧ f.cause = some .host) ∧
    (∃ (s s0 : State) (f : Feeder), s.expires .recloseDelay s0 ∧ s.shu.recloseCandidate = some 7 ∧
      s.feeder? 7 = some f ∧ f.closeLine = none) :=
  ⟨⟨due .recloseDelay (candidate.setParam .closeDelay 0), _, _, ⟨rfl, rfl⟩, rfl, rfl, rfl, rfl, rfl, rfl, rfl, rfl, rfl,
     by decide +kernel⟩,
   ⟨due .recloseDelay { placed 7 (.feeder { feeder with state := .tripped, cause := some .host }) State.reset with
      shu := { State.reset.shu with recloseCandidate := some 7 } }, _, _, ⟨rfl, rfl⟩, rfl, rfl, rfl⟩,
   ⟨due .recloseDelay { placed 7 (.feeder { feeder with state := .tripped, closeLine := none }) State.reset with
      shu := { State.reset.shu with recloseCandidate := some 7 } }, _, _, ⟨rfl, rfl⟩, rfl, rfl, rfl⟩⟩

/-! ### What the statements about the bus and the pins suppose -/

theorem witness_BusTimersDeclare :
    (∃ s s0 : State, s.expires (.ufStage 3) s0) ∧
    (∃ s s0 : State, s.expires .darkTimer s0 ∧ s.allBreakersOpen = true) ∧
    (∃ s s0 : State, s.expires .darkTimer s0 ∧ s.allBreakersOpen = false) ∧
    (∃ s s0 : State, s.expires .liveHold s0 ∧ s.bus.frequency = 49500 ∧
      s.param .nominal ≤ s.bus.frequency + s.param .liveBand ∧
      s.bus.frequency ≤ s.param .nominal + s.param .liveBand) ∧
    (∃ s s0 : State, s.expires .liveHold s0 ∧ s.bus.frequency + s.param .liveBand < s.param .nominal) ∧
    (∃ s s0 : State, s.takes Message.breakerBmn? (2, false) s0 ∧ s.bus.noEdge = false) ∧
    (∃ s s0 : State, s.takes Message.breakerBmn? (2, false) s0 ∧ s.bus.noEdge = true ∧
      s.bus.dark = false ∧ s.allBreakersOpen = true) :=
  ⟨⟨due (.ufStage 3) State.reset, _, rfl, rfl⟩, ⟨State.reset, _, ⟨rfl, rfl⟩, by decide +kernel⟩,
   ⟨level 2 true (lined 2 .genBreakerIn State.reset), _, ⟨rfl, rfl⟩, by decide +kernel⟩,
   ⟨due .liveHold { State.reset with bus := { State.reset.bus with frequency := 49500 } }, _, ⟨rfl, rfl⟩, rfl,
     by decide +kernel, by decide +kernel⟩,
   ⟨due .liveHold { State.reset with bus := { State.reset.bus with frequency := 49499 } }, _, ⟨rfl, rfl⟩,
     by decide +kernel⟩,
   ⟨mailed (.breakerBmn 2 false 0) State.reset, _, ⟨rfl, _, rfl, rfl⟩, rfl⟩,
   ⟨mailed (.breakerBmn 2 false 0) { State.reset with bus := { State.reset.bus with noEdge := true } }, _,
     ⟨rfl, _, rfl, rfl⟩, rfl, rfl, by decide +kernel⟩⟩

/-- A zero-cross input on line 20, its rise at F = 800 000 held for 100 µs, on four edges 20 ms apart. -/
def crossing (history : List Time) (hold : Option FilterHold) : State :=
  { State.reset with
    lines := State.reset.lines.set 20 { Line.fresh with function := .zeroCrossIn, filter := 100, hold := hold },
    bus := { State.reset.bus with history := history } }

theorem witness_EdgesGiveTheFrequency :
    (∃ s s0 : State, s.crosses .zeroCrossFilterExpiry 800000 s0 ∧ s.bus.history.length = 4 ∧
      0 < s.param .darkTime ∧ 0 < s.param .liveHold ∧ ¬ s.glitch 800000) ∧
    (∃ s s0 : State, s.crosses .zeroCrossFilterExpiry 800999 s0 ∧ s.bus.history.length ≤ 5 ∧
      0 < s.param .darkTime ∧ 0 < s.param .liveHold ∧ s.glitch 800999) ∧
    (∃ s s0 : State, s.crosses (.zeroCrossPinChange 5 true) 5 s0 ∧ s.bus.history.length < 4 ∧
      0 < s.param .darkTime ∧ 0 < s.param .liveHold ∧ ¬ s.glitch 5) := by
  refine ⟨⟨crossing [0, 200000, 400000, 600000] (some { till := 801000, stamp := 800000 }), _,
      ⟨rfl, 20, by decide +kernel, .inl ⟨_, rfl, rfl, rfl, rfl⟩⟩, rfl, by decide +kernel, by decide +kernel, ?_⟩,
    ⟨crossing [800000] (some { till := 801999, stamp := 800999 }), _,
      ⟨rfl, 20, by decide +kernel, .inl ⟨_, rfl, rfl, rfl, rfl⟩⟩, by decide, by decide +kernel, by decide +kernel,
      .inl ⟨800000, 20, rfl, by decide +kernel, by decide +kernel⟩⟩,
    ⟨(crossing [] none).modLine 20 (fun x => { x with filter := 0 }), _,
      ⟨rfl, 20, by decide +kernel, .inr ⟨5, true, rfl, rfl, rfl, rfl, rfl, by decide +kernel, rfl⟩⟩, by decide,
      by decide +kernel, by decide +kernel, ?_⟩⟩
  · rintro (⟨n, l, hn, hl, h⟩ | ⟨o, -, ho, h⟩)
    · have e : (crossing [0, 200000, 400000, 600000] (some { till := 801000, stamp := 800000 })).zeroCrossLine
          = some 20 := by decide +kernel
      rw [e] at hl
      cases hl
      cases hn
      revert h; decide +kernel
    · cases ho
      revert h; decide
  · rintro (⟨n, l, hn, -⟩ | ⟨o, h, -⟩)
    · cases hn
    · revert h; decide

/-- Four periods of 850 000 counts give 47 059 mHz, below the threshold of stage 1, whose delay of 200 ms then
runs from S = 85 (R45, R48). -/
def slowEdge : State := (crossing [0, 200000, 400000, 600000]
  (some { till := 851000, stamp := 850000 })).setParam (.ufDelay 0) 200

theorem witness_EdgesGiveTheFrequency_delay :
    ∃ s s0 : State, s.crosses .zeroCrossFilterExpiry 850000 s0 ∧ s.bus.history.length = 4 ∧
      s.bus.raised[(0 : StageIx)] = false ∧ s0.isSet (.ufStage 0) = false ∧ s.param (.ufDelay 0) ≠ 0 ∧
      (after .zeroCrossFilterExpiry s).bus.frequency < s.param (.ufThreshold 0) :=
  ⟨slowEdge, _, ⟨rfl, 20, by decide +kernel, .inl ⟨_, rfl, rfl, rfl, rfl⟩⟩, rfl, rfl, by decide +kernel,
    by decide +kernel, by decide +kernel⟩

theorem test_stageDelay :
    (⟨.ufStage 0, 285, none⟩ : Deadline) ∈ (after .zeroCrossFilterExpiry slowEdge).scu.entries := by
  decide +kernel

/-- A stage with a delay of 0 is raised at the edge itself (R48). -/
def raisingEdge : State := (crossing [0, 200000, 400000, 600000]
  (some { till := 851000, stamp := 850000 })).setParam (.ufDelay 0) 0

theorem witness_EdgesGiveTheFrequency_raise :
    ∃ s s0 : State, s.crosses .zeroCrossFilterExpiry 850000 s0 ∧ s.bus.history.length = 4 ∧
      s.bus.raised[(0 : StageIx)] = false ∧ s0.isSet (.ufStage 0) = false ∧ s.param (.ufDelay 0) = 0 ∧
      (after .zeroCrossFilterExpiry s).bus.frequency < s.param (.ufThreshold 0) :=
  ⟨raisingEdge, _, ⟨rfl, 20, by decide +kernel, .inl ⟨_, rfl, rfl, rfl, rfl⟩⟩, rfl, rfl, by decide +kernel,
    by decide +kernel, by decide +kernel⟩

/-- The raise goes to BLU, SHU and RSQ, ahead of the frequency; stage 4, whose delay is 0, follows stage 1 (R48). -/
theorem test_stageRaisedAtEdge :
    (after .zeroCrossFilterExpiry raisingEdge).mail =
      [.stageRaiseBlu 0, .stageRaiseShu 0, .stageRaiseRsq 0, .stageRaiseBlu 3, .stageRaiseShu 3,
        .stageRaiseRsq 3, .frequency 47059] := by
  decide +kernel

/-- Line 12 as a status input, with a pin, a filtered level, a filter time and a hold. -/
def input (pin filtered : Bool) (filter : Nat) (hold : Option FilterHold) : State :=
  { State.reset with
    lines := State.reset.lines.set 12 { Line.fresh with
      function := .statusIn, pin := pin, filtered := filtered, filter := filter, hold := hold } }

theorem witness_PinsAreFiltered :
    (∃ s : State, s.port.resetHeld = false ∧ s.lines[(12 : LineIx)].function = .statusIn ∧
      s.lines[(12 : LineIx)].filtered = false ∧ ∀ h, s.lines[(12 : LineIx)].hold = some h → s.now + 99 < h.till) ∧
    (∃ s : State, s.lines[(12 : LineIx)].filtered = false ∧ s.lines[(12 : LineIx)].hold = none ∧
      s.lines[(12 : LineIx)].filter ≠ 0) ∧
    (∃ s : State, s.lines[(12 : LineIx)].filtered = false ∧ s.lines[(12 : LineIx)].hold = none ∧
      s.lines[(12 : LineIx)].filter = 0) ∧
    (∃ (s t : State) (h : FilterHold), s.lines[(12 : LineIx)].hold = some h ∧ h.till ≤ s.now + 100 ∧
      exec (.inputFilterExpiry 12) s = .next t) ∧
    (∃ (s : State) (l : LineIx), s.port.resetHeld = false ∧ s.zeroCrossLine = some l ∧
      s.lines[l].hold = none ∧ s.lines[l].level = false ∧ s.lines[l].filter ≠ 0) ∧
    (∃ (s : State) (l : LineIx), s.port.resetHeld = false ∧ s.zeroCrossLine = some l ∧
      s.lines[l].level = true ∧ ∀ h, s.lines[l].hold = some h → s.now + 100 < h.till) ∧
    (∃ s : State, s.port.resetHeld = true) ∧
    (∃ s : State, s.lines[(10 : LineIx)].hold = none ∧ s.lines[(10 : LineIx)].function = .unused) := by
  refine ⟨⟨input true false 10 (some { till := 100, stamp := 0 }), rfl, rfl, rfl, ?_⟩,
    ⟨input false false 50 none, rfl, rfl, by decide +kernel⟩, ⟨input false false 0 none, rfl, rfl, rfl⟩,
    ⟨input true false 10 (some { till := 100, stamp := 0 }), _, _, rfl, by decide, rfl⟩,
    ⟨crossing [] none, 20, rfl, by decide +kernel, rfl, rfl, by decide +kernel⟩,
    ⟨(crossing [] (some { till := 101, stamp := 0 })).modLine 20 (fun x => { x with pin := true }), 20, rfl,
      by decide +kernel, rfl, ?_⟩,
    ⟨{ State.reset with port := { State.reset.port with resetHeld := true } }, rfl⟩, ⟨State.reset, rfl, rfl⟩⟩ <;>
  · intro h e; cases e; decide

/-! ### What the statements about the field link suppose -/

/-- A poll of station 9, and a setpoint of 250 kW to its unit 0 for the plant of slot 6. -/
def poll : Transaction :=
  { address := 9, allowance := 50, gap := 10, errand := .poll 1, baud := 230400,
    frame := fieldFrame 9 0x01 [], retry := false }
def setpoint : Transaction :=
  { poll with errand := .setpoint 6 1 0 250, frame := fieldFrame 9 0x02 (u8 0 ++ u16 250) }

/-- The field link with a transaction in a phase, a genset and a plant bound to the station. -/
def onLine (x : Option Transaction) (p : LinkPhase) (s : State) : State :=
  { s with link := { s.link with transaction := x, phase := p } }

theorem witness_PollCycleAgesAndMarks :
    (∃ s s0 : State, s.expires .pollCycle s0 ∧ s.link.phase ≠ .free) ∧
    (∃ s s0 : State, s.expires .pollCycle s0 ∧ s.link.phase = .free) :=
  ⟨⟨onLine none (.endGap 0) State.reset, _, ⟨rfl, rfl⟩, nofun⟩, ⟨State.reset, _, ⟨rfl, rfl⟩, rfl⟩⟩

/-- What the statement about the arbiter supposes of a retire and of a stop while the line is free. -/
theorem witness_ArbiterTakesWorkInOrder_joins :
    (∃ (s : State) (r : Record) (p : Pv), s.serves (.retire h6) ∧ s.resolve h6 = some 6 ∧
      s.record? 6 = some r ∧ r.body = .pv p ∧ r.lifecycle = .active ∧
      (∀ x u, s.boundTo 6 = some (x, u) → x.reach ≠ .unreachable) ∧ (∀ q : PosIx, s.rsq.steps[q] = none) ∧
      s.link.phase = .free ∧ s.queued 6 = none) ∧
    (∃ (s : State) (g x : Genset) (j : SlotIx), s.serves (.stop h5) ∧ s.resolve h5 = some 5 ∧
      s.genset? 5 = some g ∧ g.state = .online ∧ j ≠ 5 ∧ s.genset? j = some x ∧ x.state = .online ∧
      s.lifecycle? 5 ≠ some .retiring ∧ s.quiet ∧ s.link.phase = .free ∧ s.link.commands = []) := by
  refine ⟨⟨placed 6 (.pv pv) State.reset, _, pv, ⟨rfl, .inl rfl⟩, by decide +kernel, rfl, rfl, rfl, ?_,
      by decide +kernel, rfl, rfl⟩,
    ⟨twoOnline 800, _, _, 6, ⟨rfl, .inl rfl⟩, by decide +kernel, rfl, rfl, by decide, rfl, rfl,
      (by decide : some Lifecycle.active ≠ some .retiring), ⟨rfl, rfl⟩, rfl, rfl⟩⟩
  intro x u h
  rw [(rfl : (placed 6 (.pv pv) State.reset).boundTo 6 = none)] at h; cases h

/-- A plant bound to the station, with a setpoint and an UNLOAD entry queued. -/
def queued (reach : Reach) (fairness : Nat) (isDue : Bool) : State :=
  let s := stationed { station with reach := reach, due := isDue } (bound 6 (.pv pv) (bound 5 (.genset genset) State.reset))
  { s with link := { s.link with
    phase := .endGap 0, fairness := fairness, setpoints := [{ slot := 6, gen := 1, value := 250 }],
    commands := [{ slot := 5, gen := 1 }] } }

theorem witness_ArbiterTakesWorkInOrder :
    (∃ (s : State) (d : DirIx) (x : Station), s.port.resetHeld = false ∧ s.link.transaction = none ∧
      s.link.phase = .endGap 0 ∧ s.stations[d] = some x ∧ x.due = true ∧ s.link.fairness = 4 ∧
      ∀ e y, e < d → s.stations[e] = some y → y.due = false) ∧
    (∃ (s : State) (q : SetpointEntry) (x : Station) (u : Nat), s.link.setpoints = [q] ∧
      s.boundReachable q.slot = some (x, u) ∧ s.link.fairness = 3 ∧ s.link.phase = .endGap 0) ∧
    (∃ (s : State) (q : CommandEntry) (x : Station) (u : Nat), s.link.setpoints = [] ∧
      s.link.commands = [q] ∧ s.boundReachable q.slot = some (x, u) ∧ s.link.phase = .endGap 0 ∧
      s.link.fairness = 0) ∧
    (∃ s : State, (∀ q ∈ s.link.setpoints, s.boundReachable q.slot = none) ∧
      (∀ q ∈ s.link.commands, s.boundReachable q.slot = none) ∧ s.link.phase = .endGap 0 ∧
      ∀ (d : DirIx) x, s.stations[d] = some x → x.due = false) := by
  refine ⟨⟨queued .reachable 4 true, 0, _, rfl, rfl, rfl, rfl, rfl, rfl, noneBelow⟩,
    ⟨queued .reachable 3 true, _, _, _, rfl, rfl, rfl, rfl⟩,
    ⟨{ queued .reachable 0 false with link := { (queued .reachable 0 false).link with setpoints := [] } }, _, _, _,
      rfl, rfl, rfl, rfl, rfl⟩,
    ⟨queued .unreachable 0 false, by decide +kernel, by decide +kernel, rfl, ?_⟩⟩
  have h : ∀ d : DirIx, ((queued .unreachable 0 false).stations[d]).all (fun x => !x.due) = true := by decide +kernel
  intro d x e
  have := h d
  rw [e] at this
  simpa using this

theorem witness_AttemptsAndMisses :
    (∃ s : State, s.port.resetHeld = false ∧ s.link.transaction = some poll ∧ s.link.phase = .sending 0) ∧
    (∃ s : State, s.link.transaction = some poll ∧ s.link.phase = .waiting 0 ∧
      s.link.receiving.isSome = true) ∧
    (∃ s : State, s.link.transaction = some poll ∧ s.link.phase = .waiting 0 ∧ s.link.receiving = none) ∧
    (∃ s : State, s.link.transaction = some { poll with retry := true } ∧ s.link.phase = .waiting 0 ∧
      s.link.receiving = none ∧ ∀ d : DirIx, s.stations[d] = none) ∧
    (∃ (s : State) (y : Station), s.link.transaction = some { poll with retry := true } ∧
      s.link.phase = .waiting 0 ∧ s.link.receiving = none ∧ s.stationAt 9 0 y ∧
      y.misses + 1 < s.param .missLimit) ∧
    (∃ (s : State) (y : Station), s.link.transaction = some { poll with retry := true } ∧
      s.link.phase = .waiting 0 ∧ s.link.receiving = none ∧ s.stationAt 9 0 y ∧
      s.param .missLimit = y.misses + 1 ∧ y.reach ≠ .unreachable ∧ ∀ i, s.record? i = none) ∧
    (∃ (s : State) (y : Station), s.link.transaction = some { poll with retry := true } ∧
      s.link.phase = .waiting 0 ∧ s.link.receiving = none ∧ s.stationAt 9 0 y ∧
      s.param .missLimit ≤ y.misses + 1 ∧ y.reach = .unreachable) ∧
    (∃ s : State, s.link.transaction = some poll ∧ s.link.phase = .retryGap 0 ∧ s.link.receiving = none) ∧
    (∃ s : State, s.link.phase = .free ∧ (400000000 + s.link.rate - 1) / s.link.rate = 1737) :=
  ⟨⟨onLine (some poll) (.sending 0) State.reset, rfl, rfl, rfl⟩,
   ⟨onLine (some poll) (.waiting 0) { State.reset with link := { State.reset.link with receiving := some 5 } }, rfl, rfl, rfl⟩,
   ⟨onLine (some poll) (.waiting 0) State.reset, rfl, rfl, rfl⟩,
   ⟨onLine (some { poll with retry := true }) (.waiting 0) State.reset, rfl, rfl, rfl, by decide +kernel⟩,
   ⟨onLine (some { poll with retry := true }) (.waiting 0) (stationed { station with misses := 1 } State.reset), _, rfl,
     rfl, rfl, ⟨rfl, rfl, noneBelow⟩, by decide +kernel⟩,
   ⟨onLine (some { poll with retry := true }) (.waiting 0) (stationed { station with misses := 2 } State.reset), _, rfl,
     rfl, rfl, ⟨rfl, rfl, noneBelow⟩, by decide +kernel, nofun, by decide +kernel⟩,
   ⟨onLine (some { poll with retry := true }) (.waiting 0)
     (stationed { station with misses := 3, reach := .unreachable } State.reset), _, rfl, rfl, rfl,
     ⟨rfl, rfl, noneBelow⟩, by decide +kernel, rfl⟩,
   ⟨onLine (some poll) (.retryGap 0) State.reset, rfl, rfl, rfl⟩, ⟨State.reset, rfl, by decide⟩⟩

/-- A frame being received, its last byte come at an instant, while a transaction waits. -/
def hearing (e : Nat) (p : LinkPhase) : State :=
  onLine (some poll) p { State.reset with link := { State.reset.link with receiving := some e } }

theorem witness_AttemptsAndMisses_silence :
    (∀ e : Nat, (hearing e .free).link.receiving = some e ∧ (hearing e .free).port.resetHeld = false) ∧
    (∃ s : State, s.link.receiving = some 0 ∧ s.link.phase = .free ∧ s.now < 0 + (400000000 + s.link.rate - 1) / s.link.rate) ∧
    (∃ s t : State, s.link.receiving = some 0 ∧ 0 + (400000000 + s.link.rate - 1) / s.link.rate = s.now ∧
      exec .frameSilenceTimeout s = .next t) ∧
    (∃ (s : State) (till : Nat), s.link.receiving = some 0 ∧ s.link.transaction = some poll ∧
      s.link.phase = .waiting till ∧ (s.runTo 1737).now < till) ∧
    (∃ (s : State) (till : Nat), s.link.receiving = some 0 ∧ s.link.transaction = some poll ∧
      s.link.phase = .waiting till ∧ till = (s.runTo 1737).now) ∧
    (∃ (s : State) (till : Nat), s.link.receiving = some 0 ∧ s.link.transaction = some poll ∧
      s.link.phase = .retryGap till ∧ (s.runTo 1737).now < till) ∧
    (∃ (s : State) (till : Nat), s.link.receiving = some 0 ∧ s.link.transaction = some poll ∧
      s.link.phase = .retryGap till ∧ till = (s.runTo 1737).now) :=
  ⟨fun _ => ⟨rfl, rfl⟩, ⟨hearing 0 .free, rfl, rfl, by decide +kernel⟩,
   ⟨{ hearing 0 .free with now := 1737 }, _, rfl, by decide +kernel, rfl⟩, ⟨hearing 0 (.waiting 1738), _, rfl, rfl, rfl, by decide +kernel⟩,
   ⟨hearing 0 (.waiting 1737), _, rfl, rfl, rfl, by decide +kernel⟩,
   ⟨hearing 0 (.retryGap 1738), _, rfl, rfl, rfl, by decide +kernel⟩,
   ⟨hearing 0 (.retryGap 1737), _, rfl, rfl, rfl, by decide +kernel⟩⟩

theorem witness_AttemptsAndMisses_setpoint :
    (∃ (s : State) (y : Station) (p : Pv), s.port.resetHeld = false ∧
      s.link.transaction = some { setpoint with retry := true } ∧ s.link.phase = .waiting 0 ∧
      s.link.receiving = none ∧ s.stationAt 9 0 y ∧ y.misses + 1 < s.param .missLimit ∧ s.gen 6 = 1 ∧
      s.pv? 6 = some p ∧ (s.record? 6).bind Record.binding = some { address := 9, unit := 0 }) ∧
    (∃ (s : State) (y : Station), s.link.transaction = some { setpoint with retry := true } ∧
      s.link.phase = .waiting 0 ∧ s.link.receiving = none ∧ s.stationAt 9 0 y ∧
      s.param .missLimit ≤ y.misses + 1 ∧ s.gen 6 ≠ 1 ∧ ∀ i, s.record? i = none) :=
  ⟨⟨onLine (some { setpoint with retry := true }) (.waiting 0) (stationed station (bound 6 (.pv pv) State.reset)), _, _,
    rfl, rfl, rfl, rfl, ⟨rfl, rfl, noneBelow⟩, by decide +kernel, rfl, rfl, rfl⟩,
   ⟨onLine (some { setpoint with retry := true }) (.waiting 0) (stationed { station with misses := 2 }
      { State.reset with slots := State.reset.slots.set 6 { gen := 2, record := none } }), _,
    rfl, rfl, rfl, ⟨rfl, rfl, noneBelow⟩, by decide +kernel, by decide +kernel, by decide +kernel⟩⟩

/-- A stop delay that expires in NORMAL on the ONLINE candidate of slot 5. -/
def stopping : State :=
  due .stopDelay { gensetIn .online with blu := { State.reset.blu with grid := .normal, stopCandidate := some 5 } }

theorem witness_GridStateMovesOnEvents_stop :
    (∃ s s0 : State, s.expires .stopDelay s0 ∧ s.quiet ∧ s.blu.stopCandidate = some 5 ∧
      s.link.phase = .free ∧ ∀ e ∈ s.link.commands, e.slot ≠ 5) ∧
    (∃ s s0 : State, s.expires .stopDelay s0 ∧ s.quiet ∧ s.blu.stopCandidate = some 5 ∧
      s.link.phase ≠ .free ∧ ∀ e ∈ s.link.commands, e.slot ≠ 5) ∧
    (∃ s s0 : State, s.expires .stopDelay s0 ∧ s.quiet ∧ s.blu.stopCandidate = some 5 ∧
      ∃ e ∈ s.link.commands, e.slot = 5) :=
  ⟨⟨stopping, _, ⟨rfl, rfl⟩, ⟨rfl, rfl⟩, rfl, rfl, nofun⟩,
   ⟨onLine none (.endGap 0) stopping, _, ⟨rfl, rfl⟩, ⟨rfl, rfl⟩, rfl, nofun, nofun⟩,
   ⟨{ stopping with link := { stopping.link with commands := [{ slot := 5, gen := 1 }] } }, _, ⟨rfl, rfl⟩, ⟨rfl, rfl⟩,
     rfl, _, .head _, rfl⟩⟩

/-- On a busy line the stop delay puts the candidate's UNLOAD in the queue and leaves the line as it was (R76, R88). -/
theorem test_stopDelayQueuesUnload :
    (after .stopDelayExpiry (onLine none (.endGap 0) stopping)).link.commands = [{ slot := 5, gen := 1 }] ∧
    (after .stopDelayExpiry (onLine none (.endGap 0) stopping)).link.phase = .endGap 0 := by decide +kernel

theorem witness_EvaluationStoresAndHandsOn_stop :
    (∃ s t : State, s.expires .evaluation t ∧ s.blu.grid = .normal ∧
      (∀ i g, s.genset? i = some g → g.state ≠ .online)) ∧
    (∃ (s : State) (g x : Genset), s.blu.grid = .normal ∧ s.genset? 5 = some g ∧ g.state = .online ∧
      g.mustRun = false ∧ s.lifecycle? 5 ≠ some .retiring ∧ s.blu.minRunMark[(5 : SlotIx)] = true ∧
      s.genset? 6 = some x ∧ x.state = .online ∧ s.blu.minRunMark[(6 : SlotIx)] = false) ∧
    (∃ (s s0 : State) (p : Pv), s.expires .evaluation s0 ∧ s.blu.grid = .normal ∧ s.link.phase ≠ .free ∧
      s.pv? 6 = some p ∧ s.lifecycle? 6 = some .active) := by
  refine ⟨⟨inGrid .normal State.reset, _, ⟨rfl, rfl⟩, rfl, ?_⟩,
    ⟨{ twoOnline 800 with blu := { (twoOnline 800).blu with
        minRunMark := (twoOnline 800).blu.minRunMark.set 5 true } }, _, _, rfl, rfl, rfl, rfl, ?_, rfl, rfl, rfl, rfl⟩,
    ⟨onLine none (.endGap 0) sunny, _, _, ⟨rfl, rfl⟩, rfl, nofun, rfl, rfl⟩⟩
  · intro i g h
    rw [(by decide +kernel : ∀ i, (inGrid .normal State.reset).genset? i = none) i] at h; cases h
  · exact (by decide : some Lifecycle.active ≠ some .retiring)

theorem witness_EvaluationStoresAndHandsOn_plan :
    ∃ (s s0 : State) (p : Pv), s.expires .evaluation s0 ∧ s.blu.grid = .restoring ∧ s.pv? 6 = some p ∧
      p.planCap = some 100 ∧ s.link.phase ≠ .free :=
  ⟨onLine none (.endGap 0) (inGrid .restoring (placed 6 (.pv { pv with planCap := some 100 }) State.reset)), _, _,
    ⟨rfl, rfl⟩, rfl, rfl, rfl, nofun⟩

/-- Nothing answers a transaction but a frame that begins with the sync byte. -/
theorem unanswered (x : Transaction) : ¬ x.answeredBy [] := by
  rintro ⟨k, body, h, -⟩
  simp [fieldFrame, u8] at h

theorem witness_RepliesEndTheTransaction :
    (∃ s : State, s.port.resetHeld = false ∧ s.link.phase = .sending 0) ∧
    (∃ s : State, s.link.transaction = none ∧ ∀ till, s.link.phase ≠ .sending till) ∧
    (∀ p : LinkPhase, ∃ s : State, s.link.transaction = some poll ∧ s.link.phase = p ∧
      ¬ poll.answeredBy []) ∧
    (∃ (s : State) (y : Station) (p : Pv), s.link.transaction = some setpoint ∧ s.link.phase = .retryGap 1 ∧
      s.stationAt 9 0 y ∧ s.gen 6 = 1 ∧
      (s.record? 6).bind Record.binding = some { address := 9, unit := 0 } ∧
      s.lifecycle? 6 ≠ some .retiring ∧ s.pv? 6 = some p) ∧
    (∃ (s : State) (y : Station), s.link.transaction = some setpoint ∧ s.link.phase = .waiting 1 ∧
      s.stationAt 9 0 y ∧ (s.record? 6).bind Record.binding = none) ∧
    (∃ (s : State) (x : Transaction) (y : Station), s.link.transaction = some x ∧
      s.link.phase = .waiting 1 ∧ s.stationAt 9 0 y ∧ x.address = 9 ∧ x.errand = .unload 5 1 0) ∧
    (∃ (s : State) (y : Station) (r : Record), s.link.transaction = some poll ∧ s.link.phase = .waiting 1 ∧
      s.stationAt 9 0 y ∧ s.record? 6 = some r ∧ r.binding = some { address := 9, unit := 0 } ∧
      (∀ j, j ≠ 6 → s.record? j = none) ∧ ∀ i, s.genset? i = none) := by
  refine ⟨⟨onLine (some poll) (.sending 0) State.reset, rfl, rfl⟩, ⟨State.reset, rfl, nofun⟩,
    fun p => ⟨onLine (some poll) p State.reset, rfl, rfl, unanswered poll⟩,
    ⟨onLine (some setpoint) (.retryGap 1) (stationed station (bound 6 (.pv pv) State.reset)), _, _, rfl, rfl,
      ⟨rfl, rfl, noneBelow⟩, rfl, rfl, (by decide : some Lifecycle.active ≠ some .retiring), rfl⟩,
    ⟨onLine (some setpoint) (.waiting 1) (stationed station State.reset), _, rfl, rfl, ⟨rfl, rfl, noneBelow⟩, rfl⟩,
    ⟨onLine (some { poll with errand := .unload 5 1 0 }) (.waiting 1) (stationed station State.reset), _, _, rfl, rfl,
      ⟨rfl, rfl, noneBelow⟩, rfl, rfl⟩,
    ⟨onLine (some poll) (.waiting 1) (stationed station (bound 6 (.pv pv) State.reset)), _, _, rfl, rfl,
      ⟨rfl, rfl, noneBelow⟩, rfl, rfl, by decide +kernel, by decide +kernel⟩⟩

/-- A genset in a state, bound to unit 0 of the station, while its poll waits for the reply. -/
def polled (st : GensetState) : State :=
  onLine (some poll) (.waiting 1) (stationed station (bound 5 (.genset { genset with state := st }) State.reset))

theorem witness_RepliesEndTheTransaction_reports :
    ∀ st : GensetState, ∃ (s : State) (y : Station) (r : Record) (body : List Byte),
      s.port.resetHeld = false ∧ s.link.transaction = some poll ∧ (∀ till, s.link.phase ≠ .sending till) ∧
      s.stationAt 9 0 y ∧ poll.errand = .poll 1 ∧ body.length = 5 * 1 ∧ s.record? 5 = some r ∧
      r.binding = some { address := 9, unit := 0 } ∧ s.genset? 5 = some { genset with state := st } :=
  fun st => ⟨polled st, _, _, [1, 0, 0, 0, 0], rfl, rfl, nofun, ⟨rfl, rfl, noneBelow⟩, rfl, rfl, rfl, rfl, rfl⟩

/-- A report with FAULT set locks the genset out (R87); one at or below UNLOAD_LEVEL, 10 % of 500 kW, ends an
unload, and one above it does not (R89). -/
theorem test_reportsOfGensets :
    ((after (.fieldFrameReceived (fieldFrame 9 0x81 [1, 100, 0, 0, 0])) (polled .online)).gensetState 5 =
      some .lockout) ∧
    ((after (.fieldFrameReceived (fieldFrame 9 0x81 [0, 50, 0, 0, 0])) (polled .unloading)).gensetState 5 =
      some .cooldown) ∧
    ((after (.fieldFrameReceived (fieldFrame 9 0x81 [0, 51, 0, 0, 0])) (polled .unloading)).gensetState 5 =
      some .unloading) := by decide +kernel

theorem witness_RetireByKindAndState_ends :
    (∃ (s s0 : State) (g : Genset), s.expires (.gensetTimer 5) s0 ∧ s.genset? 5 = some g ∧
      s.lifecycle? 5 = some .retiring ∧ g.state = .cooldown ∧ s.filtered g.breakerLine = false ∧ s.quiet ∧
      s.noPermit) ∧
    (∃ (s s0 : State) (g : Genset), s.takes Message.readyGsq? (1, false) s0 ∧ s.genset? 5 = some g ∧
      g.readyLine = 1 ∧ (∀ j, j ≠ 5 → s.genset? j = none) ∧ s.lifecycle? 5 = some .retiring ∧
      g.state = .unloading ∧ s.quiet ∧ s.noPermit) ∧
    (∃ (s : State) (x : Transaction) (p : Pv), s.port.resetHeld = false ∧ s.link.transaction = some x ∧
      s.link.phase = .waiting 1 ∧ x.errand = .setpoint 6 1 0 0 ∧ x.address = 9 ∧ s.gen 6 = 1 ∧
      (s.record? 6).bind Record.binding = some { address := 9, unit := 0 } ∧
      s.lifecycle? 6 = some .retiring ∧ s.pv? 6 = some p) ∧
    (∃ (s : State) (y : Station), s.port.resetHeld = false ∧
      s.link.transaction = some { poll with retry := true } ∧ s.link.phase = .waiting 1 ∧
      s.link.receiving = none ∧ s.stations[(0 : DirIx)] = some y ∧ y.address = 9 ∧
      s.param .missLimit ≤ y.misses + 1 ∧ y.reach ≠ .unreachable ∧ s.lifecycle? 6 = some .retiring) := by
  refine ⟨⟨due (.gensetTimer 5) (leaving 5 (.genset { genset with state := .cooldown })), _, _, ⟨rfl, rfl⟩, rfl,
      rfl, rfl, rfl, ⟨rfl, rfl⟩, rfl, by decide +kernel⟩,
    ⟨mailed (.readyGsq 1 false 0) (leaving 5 (.genset { genset with state := .unloading })), _, _,
      ⟨rfl, _, rfl, rfl⟩, rfl, rfl, by decide +kernel, rfl, rfl, ⟨rfl, rfl⟩, rfl, by decide +kernel⟩,
    ⟨onLine (some { setpoint with errand := .setpoint 6 1 0 0 }) (.waiting 1)
      (stationed station (leaving 6 (.pv pv))), _, _, rfl, rfl, rfl, rfl, rfl, rfl, rfl, rfl, rfl⟩,
    ⟨onLine (some { poll with retry := true }) (.waiting 1)
      (stationed { station with misses := 2 } (leaving 6 (.pv pv))), _, rfl, rfl, rfl, rfl, rfl, rfl,
      by decide +kernel, nofun, rfl⟩⟩

/-- A RETIRING genset whose unload time runs out or whose breaker opens, and a SETPOINT missed by a station with a
RETIRING plant, for that plant and for another. -/
theorem witness_RetireByKindAndState_forms :
    (∃ s s0 : State, s.expires (.gensetTimer 5) s0 ∧ s.lifecycle? 5 = some .retiring ∧
      s.genset? 5 = some { genset with state := .unloading }) ∧
    (∀ (st : GensetState) (s : State),
      s = mailed (.breakerGsq 2 false 0) (leaving 5 (.genset { genset with state := st })) →
      ∃ s0, s.takes Message.breakerGsq? (2, false) s0 ∧ s.lifecycle? 5 = some .retiring ∧
        s.genset? 5 = some { genset with state := st } ∧ s.isSet (.gensetTimer 5) = false) ∧
    (∀ (st : GensetState) (j : SlotIx), j ≠ 5 → (leaving 5 (.genset { genset with state := st })).genset? j = none) ∧
    (∃ s s0 : State, s.takes Message.breakerGsq? (2, false) s0 ∧ s.lifecycle? 5 = some .retiring ∧
      s.genset? 5 = some { genset with state := .cooldown } ∧ (∀ j, j ≠ 5 → s.genset? j = none) ∧
      s.isSet (.gensetTimer 5) = true) ∧
    (∀ i ∈ ([6, 7] : List SlotIx), ∃ (s : State) (x : Transaction) (y : Station), s.port.resetHeld = false ∧
      s.link.transaction = some x ∧ s.link.phase = .waiting 1 ∧ s.link.receiving = none ∧ x.retry = true ∧
      x.errand = .setpoint i 1 0 7 ∧ s.stationAt x.address 0 y ∧ s.param .missLimit ≤ y.misses + 1 ∧
      y.reach ≠ .unreachable ∧ s.lifecycle? 6 = some .retiring ∧ s.gen i = 1) := by
  have missed : ∀ i : SlotIx, (leaving 6 (.pv pv)).gen i = 1 →
      ∃ (s : State) (x : Transaction) (y : Station), s.port.resetHeld = false ∧
      s.link.transaction = some x ∧ s.link.phase = .waiting 1 ∧ s.link.receiving = none ∧ x.retry = true ∧
      x.errand = .setpoint i 1 0 7 ∧ s.stationAt x.address 0 y ∧ s.param .missLimit ≤ y.misses + 1 ∧
      y.reach ≠ .unreachable ∧ s.lifecycle? 6 = some .retiring ∧ s.gen i = 1 := fun i hi =>
    ⟨onLine (some { setpoint with errand := .setpoint i 1 0 7, retry := true }) (.waiting 1)
      (stationed { station with misses := 2 } (leaving 6 (.pv pv))), _, _, rfl, rfl, rfl, rfl, rfl, rfl,
      ⟨rfl, rfl, noneBelow⟩, (by decide +kernel : State.reset.param .missLimit ≤ 2 + 1), nofun, rfl, hi⟩
  refine ⟨⟨due (.gensetTimer 5) (leaving 5 (.genset { genset with state := .unloading })), _, ⟨rfl, rfl⟩, rfl, rfl⟩,
    ?_, ?_, ⟨mailed (.breakerGsq 2 false 0) (due (.gensetTimer 5)
      (leaving 5 (.genset { genset with state := .cooldown }))), _, ⟨rfl, _, rfl, rfl⟩, rfl, rfl,
      by decide +kernel, rfl⟩, ?_⟩
  · rintro st s rfl; exact ⟨_, ⟨rfl, _, rfl, rfl⟩, rfl, rfl, rfl⟩
  · intro st; cases st <;> decide +kernel
  · intro i hi
    rcases List.mem_cons.1 hi with rfl | hi
    · exact missed 6 rfl
    · rcases List.mem_cons.1 hi with rfl | hi
      · exact missed 7 rfl
      · cases hi

/-- The unload time of a RETIRING genset runs out: COOLDOWN for COOL_TIME, 120 s after reset (R89, R90); its breaker
opens once the timer has run: the slot is FREE (R22). -/
theorem test_retiringGensetForms :
    ((after (.unloadTimeExpiry 5) (due (.gensetTimer 5)
      (leaving 5 (.genset { genset with state := .unloading })))).scu.entries.filter
        (fun d => d.key == .gensetTimer 5)).map Deadline.due = [120000] ∧
    (after .genBreakerChange (mailed (.breakerGsq 2 false 0)
      (leaving 5 (.genset { genset with state := .cooldown })))).slots[(5 : SlotIx)] =
      { gen := 2, record := none } := by decide +kernel

/-! ### Ill-formed operands are refused -/

theorem test_wellFormed_register : (Instr.register 256 [(1, 8)]).wellFormed = false ∧
    (Instr.register 1 []).wellFormed = false ∧ (Instr.register 1 [(1, 8), (1, 9)]).wellFormed = false ∧
    (Instr.register 1 [(1, 65536)]).wellFormed = false ∧ (Instr.register 1 [(1, 65535)]).wellFormed = true := by
  decide

theorem test_wellFormed_handles :
    (Instr.amend { slot := 64, gen := 1024 } [(1, 8)]).wellFormed = false ∧
    (Instr.amend h5 [(256, 8)]).wellFormed = false ∧ (Instr.query { slot := 5, gen := 1024 }).wellFormed = false ∧
    (Instr.retire { slot := 64, gen := 1 }).wellFormed = false ∧
    (Instr.start { slot := 64, gen := 1 }).wellFormed = false ∧
    (Instr.stop { slot := 64, gen := 1 }).wellFormed = false ∧
    (Instr.clearLockout { slot := 64, gen := 1 }).wellFormed = false ∧
    (Instr.trip { slot := 64, gen := 1 }).wellFormed = false ∧
    (Instr.reclose { slot := 64, gen := 1 }).wellFormed = false ∧
    (Instr.clearFault { slot := 64, gen := 1 }).wellFormed = false ∧ (Instr.query h5).wellFormed = true := by
  decide

theorem test_wellFormed_bytes :
    (Instr.lookupTag 65536).wellFormed = false ∧ (Instr.list 256 0).wellFormed = false ∧
    (Instr.list 0 256).wellFormed = false ∧ (Instr.stationAdd 256 1 1 1 2 0).wellFormed = false ∧
    (Instr.stationAdd 1 1 1 1 2 256).wellFormed = false ∧ (Instr.stationAmend 1 [(6, 0)]).wellFormed = false ∧
    (Instr.stationAmend 1 [(5, 256)]).wellFormed = false ∧ (Instr.stationDrop 256).wellFormed = false ∧
    (Instr.stationQuery 0 256).wellFormed = false ∧ (Instr.lineConfigure 256 0 0 none).wellFormed = false ∧
    (Instr.lineConfigure 0 0 0 (some 65535)).wellFormed = false ∧ (Instr.lineQuery 256).wellFormed = false := by
  decide

theorem test_wellFormed_words :
    (Instr.setParameter 256 0).wellFormed = false ∧ (Instr.setParameter 1 2147483648).wellFormed = false ∧
    (Instr.setParameter 1 (-2147483649)).wellFormed = false ∧ (Instr.getParameter 256).wellFormed = false ∧
    (Instr.planWriteStep 256 0 none 0 0 0).wellFormed = false ∧
    (Instr.planWriteStep 0 1 (some { slot := 0, gen := 0 }) 0 0 0).wellFormed = false ∧
    (Instr.planWriteStep 0 1 none 65536 0 0).wellFormed = false ∧
    (Instr.planWriteStep 0 1 none 0 65536 0).wellFormed = false ∧ (Instr.planSet 256 0).wellFormed = false ∧
    (Instr.planQuery 256).wellFormed = false ∧ (Instr.setNoticeLevels [(1, 256)]).wellFormed = false ∧
    (Instr.setNoticeLevels [(1, 1), (1, 2)]).wellFormed = false := by
  decide

/-- The time before a pin change stays below the half of the range of S (R160). -/
theorem test_wellFormed_pins :
    (Instr.inputPinChange (2 ^ 31 * 10000) 0 true).wellFormed = false ∧
    (Instr.zeroCrossPinChange (2 ^ 31 * 10000) true).wellFormed = false ∧
    (Instr.inputPinChange (2 ^ 31 * 10000 - 1) 0 true).wellFormed = true ∧
    (Instr.zeroCrossPinChange (2 ^ 31 * 10000 - 1) true).wellFormed = true := by decide

/-! ### Figures the manual gives -/

/-- The check values of the two CRCs over the ASCII digits 1 to 9 (section 10.6, R184). -/
theorem test_crc16 : crc16 [0x31, 0x32, 0x33, 0x34, 0x35, 0x36, 0x37, 0x38, 0x39] = 0x29B1 := by decide +kernel

theorem test_crc32 : crc32 [0x31, 0x32, 0x33, 0x34, 0x35, 0x36, 0x37, 0x38, 0x39] = 0xCBF43926 := by
  decide +kernel

/-- The worked figures of section 3.3.1. -/
theorem test_frequency :
    [571429, 666667, 800000, 801600, 812500, 816327, 1000000, 1250000].map frequencyOf =
      [70000, 60000, 50000, 49900, 49231, 49000, 40000, 40000] := by decide +kernel

/-- The pro-rata cut of R70: X = 70 among 380 and 250 leaves 337 and 223. -/
theorem test_proRata : targetOf (proRata 70 plants) 4 = 337 ∧ targetOf (proRata 70 plants) 7 = 223 := by
  decide +kernel

/-- The ramp steps of R72. -/
theorem test_rampStep :
    [(20, 200), (50, 200), (1, 200), (7, 300)].map (fun p => ceilDiv (p.1 * p.2) 1000) = [4, 10, 1, 3] := by
  decide

/-- The handle of slot 12 at generation 3 is the word 00CCh (section 1.2). -/
theorem test_handle : handleWord { slot := 12, gen := 3 } = 0xCC := by decide

theorem test_nextGen : nextGen 1023 = 1 ∧ nextGen 1 = 2 := by decide

theorem test_timebases :
    reached 5 5 = true ∧ reached 5 6 = false ∧ reached 0 0xFFFFFFFF = true ∧ reached 0 0x7FFFFFFF = false := by
  decide
/-! ### One step of each command -/

/-- The status and the kind code of the pending response. -/
def answer (s : State) : Option (List Byte) := s.port.response.map (fun b => (b.drop 1).take 2)

/-! Resets and the host port -/

theorem test_powerOnReset : (after .powerOnReset (inGrid .dark State.reset)).blu.grid = .survey ∧
    (after .powerOnReset State.reset).ntu.held[(20 : NoticeIx)] = some { detail := none, count := 1 } := by
  decide +kernel

theorem test_resetInput :
    (after .resetInputAsserted State.reset).port.resetHeld = true ∧
    (after .resetInputReleased (after .resetInputAsserted State.reset)).port.resetHeld = false ∧
    (after .resetInputReleased (mailed .darkBlu State.reset)).mail = [.darkBlu] := by decide +kernel

/-- The NOP response of an empty host port, and a NOP request taken (section 10.1). -/
theorem test_spiTransaction :
    (after (.spiTransaction [0, 1, 0]) State.reset).port.request = none ∧
    (after (.spiTransaction (writeFrame .nop)) State.reset).port.request = some .nop ∧
    (after (.spiTransaction (writeFrame .nop)) State.reset).port.shifted = (responseFrame .ok 1 []).take 3 := by
  decide +kernel

theorem test_restart : (after .restart (inGrid .dark State.reset)).blu.grid = .survey ∧
    (after .restart (inGrid .dark State.reset)).now = 0 := by decide +kernel

theorem test_save : (after .saveWriteComplete (after .save State.reset)).store.saving = none ∧
    (after .saveWriteComplete (after .save State.reset)).store.current.isSome = true := by decide +kernel

/-! Requests of the Asset Table, the Station Directory and the lines -/

theorem test_register :
    (after (.register 3 feederFields) (wired State.reset)).record? 0 = some
      { recordOf 7 (.feeder { feeder with closeLine := none, state := .tripped, cause := some .unknown }) with
        lifecycle := .active } := by decide +kernel

theorem test_amend : (after (.amend h7 [(3, 15), (4, 0)]) (feederIn .closed)).feeder? 7 =
    some { feeder with cls := 15, sheddable := false } := by decide +kernel

/-- The pulse of a trip line that an AMEND replaces ends at its time on the new line, both inactive (R17, R169). -/
theorem test_amendTripLine :
    (after (.amend h7 [(6, 13)]) tripping).lines[(10 : LineIx)].driven = false ∧
    (after (.amend h7 [(6, 13)]) tripping).lines[(13 : LineIx)].pulse = some 200 ∧
    (after (.amend h7 [(6, 13)]) tripping).lines[(13 : LineIx)].driven = false := by decide +kernel

theorem test_retire : (after (.retire h7) (feederIn .tripPending)).slots[(7 : SlotIx)] =
    { gen := 2, record := none } ∧
    (after (.retire h5) (gensetIn .cranking)).genset? 5 = some { genset with state := .cranking } := by
  decide +kernel

/-- The deferred retires end: a genset at STOPPED, a plant at its acknowledgement of 0 (R22, R23). -/
theorem test_retireEnds :
    (after (.coolTimeExpiry 5) (due (.gensetTimer 5)
      (leaving 5 (.genset { genset with state := .cooldown })))).slots[(5 : SlotIx)] =
      { gen := 2, record := none } ∧
    (after (.fieldFrameReceived (fieldFrame 9 0x82 (u8 0 ++ u16 0)))
      (onLine (some { setpoint with errand := .setpoint 6 1 0 0 }) (.waiting 1)
        (stationed station (leaving 6 (.pv pv))))).slots[(6 : SlotIx)] = { gen := 2, record := none } := by
  decide +kernel

theorem test_reads : answer (after (.query h7) (feederIn .closed)) = some [0, 0x12] ∧
    answer (after (.query h7) State.reset) = some [5, 0x12] ∧
    answer (after (.lookupTag 0) State.reset) = some [9, 0x13] ∧
    answer (after (.list 63 4) State.reset) = some [6, 0x14] ∧
    answer (after (.stationQuery 9 0) State.reset) = some [9, 0x23] ∧
    answer (after (.lineQuery 64) State.reset) = some [9, 0x29] ∧
    answer (after (.getParameter 0x0C) State.reset) = some [9, 0x31] ∧
    answer (after .gridStatus State.reset) = some [0, 0x32] ∧
    answer (after (.planQuery 32) State.reset) = some [9, 0x64] ∧ answer (after .nop State.reset) = some [0, 1] := by
  decide +kernel

/-- Absent results and an empty position hold the values that mark them absent (section 10.6). -/
theorem test_absent :
    (resultsBytes none).drop 1 = [0xFF, 0xFF, 0, 0, 0xFF, 0xFF, 0, 0, 0xFF, 0xFF, 0, 0, 0xFF, 0xFF, 0, 0] ∧
    (stepBytes State.reset.free 5 3 none .pending).take 4 = [3, 0, 0, 0] := by decide +kernel

theorem test_stations :
    (after (.stationAdd 9 1 2 3 50 10) State.reset).stations[(0 : DirIx)] = some station ∧
    (after (.stationAmend 9 [(2, 4), (5, 0)]) (stationed station State.reset)).stations[(0 : DirIx)] =
      some { station with units := 4, gap := 0 } ∧
    (after (.stationDrop 9) (stationed station State.reset)).stations[(0 : DirIx)] = none ∧
    answer (after (.stationDrop 9) (bound 5 (.genset genset) (stationed station State.reset))) = some [0x0C, 0x22] := by
  decide +kernel

theorem test_lineConfigure :
    (after (.lineConfigure 20 9 2 none) State.reset).lines[(20 : LineIx)] =
      { Line.fresh with function := .zeroCrossIn, polarity := .activeLow, filter := 100, filtered := true } ∧
    answer (after (.lineConfigure 12 4 1 none) (feederIn .closed)) = some [0x0B, 0x28] := by decide +kernel

theorem test_setParameter :
    (after (.setParameter 0x10 60000) State.reset).param (.ufThreshold 3) = 57600 ∧
    (after (.setParameter 0x11 48699) State.reset).param (.ufThreshold 0) = 49000 := by decide +kernel

theorem test_notices :
    (after .readNotices State.reset).ntu.notifyLow = false ∧
    (after (.setNoticeLevels [(21, 0), (22, 0)]) State.reset).ntu.notifyLow = false ∧
    ((State.reset.raise 4 (some 5)).raise 4 (some 6)).ntu.held[(4 : NoticeIx)] =
      some { detail := some 6, count := 2 } := by decide +kernel

/-! The Balance Unit and the grid state -/

/-- A stale 500 kW genset counts at rated: L 500, H 0, Rq 200, A 500 - (100 + 50) (section 4.4). -/
theorem test_evalPeriodExpiry :
    (after .evalPeriodExpiry (inGrid .normal (gensetIn .online))).blu.results = some
      { load := 500, headroom := 0, required := 200, allowance := 350, startDemand := 200, shedDemand := 0 } ∧
    (after .evalPeriodExpiry (inGrid .normal (gensetIn .online))).blu.grid = .short := by decide +kernel

theorem test_reevaluationRequest :
    (after .reevaluationRequest (inGrid .short (gensetIn .online).askReevaluation)).blu.effStart = 200 ∧
    (after .reevaluationRequest (gensetIn .online).askReevaluation).blu.results = none := by decide +kernel

theorem test_stopDelayExpiry :
    (after .stopDelayExpiry (due .stopDelay
      { twoOnline 800 with blu := { (twoOnline 800).blu with stopCandidate := some 5 } })).genset? 5 =
      some { genset with state := .unloading } := by decide +kernel

theorem test_grid :
    (after .gridStageRaise (mailed (.stageRaiseBlu 0) (inGrid .short State.reset))).blu.grid = .emergency ∧
    (after .enterDark (mailed .darkBlu (inGrid .normal (placed 6 (.pv pv) State.reset)))).pv? 6 =
      some { pv with setpoint := 0 } ∧
    (after .gridLiveDeclaration (mailed .liveBlu (inGrid .dark (gensetIn .online)))).blu.grid = .short ∧
    (after .planStartReport (mailed .planStart (inGrid .dark State.reset))).blu.grid = .restoring ∧
    (after .planEndReport (mailed (.planEnd false) (inGrid .restoring State.reset))).blu.grid = .dark := by
  decide +kernel

/-! The Genset Sequencer -/

theorem test_start :
    (after (.start h5) (gensetIn .stopped)).genset? 5 = some { genset with state := .cranking } ∧
    (after (.start h5) (gensetIn .stopped)).lines[(0 : LineIx)].driven = true ∧
    answer (after (.start h5) (inGrid .dark (gensetIn .stopped))) = some [0x12, 0x40] := by decide +kernel

theorem test_stop :
    answer (after (.stop h5) (gensetIn .online)) = some [0x11, 0x41] ∧
    (after (.stop h5) (gensetIn .runUp)).genset? 5 = some genset ∧
    (after (.clearLockout h5) (gensetIn .lockout)).genset? 5 = some genset := by decide +kernel

/-- A genset that comes to its crank limit of 3 locks out (R82). -/
theorem test_crankTimeExpiry :
    (after (.crankTimeExpiry 5) (due (.gensetTimer 5) (gensetIn .cranking))).genset? 5 =
      some { genset with state := .resting, attempts := 1 } ∧
    (after (.crankTimeExpiry 5) (due (.gensetTimer 5)
      (placed 5 (.genset { genset with state := .cranking, attempts := 2 }) State.reset))).genset? 5 =
      some { genset with state := .lockout, attempts := 3 } := by decide +kernel

theorem test_gensetTimers :
    (after (.crankRestExpiry 5) (due (.gensetTimer 5) (gensetIn .resting))).genset? 5 =
      some { genset with state := .cranking } ∧
    (after (.warmTimeExpiry 5) (due (.gensetTimer 5) (gensetIn .runUp))).genset? 5 =
      some { genset with state := .syncing } ∧
    (after (.syncTimeExpiry 5) (due (.gensetTimer 5) (gensetIn .syncing))).genset? 5 =
      some { genset with state := .resting, attempts := 1 } ∧
    (after (.unloadTimeExpiry 5) (due (.gensetTimer 5) (gensetIn .unloading))).genset? 5 =
      some { genset with state := .cooldown } ∧
    (after (.coolTimeExpiry 5) (due (.gensetTimer 5) (gensetIn .cooldown))).genset? 5 = some genset := by
  decide +kernel

theorem test_gensetInputs :
    (after .genBreakerChange (mailed (.breakerGsq 2 true 0) (level 2 true (gensetIn .syncing)))).genset? 5 =
      some { genset with state := .online, onlineSince := some 0 } ∧
    (after .genBreakerChange (mailed (.breakerGsq 2 false 0) (gensetIn .online))).genset? 5 =
      some { genset with state := .syncing, trips := 1 } ∧
    (after .gensetReadyChange (mailed (.readyGsq 1 false 0) (gensetIn .runUp))).genset? 5 =
      some { genset with state := .lockout } := by decide +kernel

/-- A start demand starts a genset in SHORT, and is kept and not acted on in DARK (R38). -/
theorem test_startDemandHandover :
    (after .startDemandHandover (mailed (.startDemand 1) (inGrid .short (gensetIn .stopped)))).genset? 5 =
      some { genset with state := .cranking } ∧
    (after .startDemandHandover (mailed (.startDemand 1) (inGrid .dark (gensetIn .stopped)))).genset? 5 =
      some genset ∧
    (after .startDemandHandover (mailed (.startDemand 500) (gensetIn .cranking))).gsq.demand = 500 := by
  decide +kernel

theorem test_gsqBus :
    (after .gsqLiveDeclaration (mailed .liveGsq { gensetIn .syncing with
      gsq := { State.reset.gsq with waiters := [5] } })).gsq.waiters = [] ∧
    (after .gsqGridStateChange (mailed (.gridGsq .dark .restoring) (inGrid .restoring { gensetIn .syncing with
      gsq := { State.reset.gsq with waiters := [5] } }))).lines[(3 : LineIx)].driven = true := by decide +kernel

/-! The Shed Unit -/

theorem test_holds :
    (after (.holdAdd 128) (placed 7 (.feeder { feeder with hold := 15 }) State.reset)).feeder? 7 =
      some { feeder with hold := 15 } ∧
    (after (.holdAdd 128) (batched { feeder with state := .tripPending })).shu.batch = [] ∧
    (after (.holdDrop 128) (placed 7 (.feeder { feeder with hold := 15 }) State.reset)).feeder? 7 =
      some { feeder with hold := 14 } := by decide +kernel

theorem test_feederRequests :
    (after (.trip h7) (inGrid .normal (level 12 true (feederIn .closed)))).feeder? 7 =
      some { feeder with state := .opening, pendingCause := some .host } ∧
    (after (.reclose h7) (inGrid .normal (feederIn .tripped))).lines[(11 : LineIx)].driven = true ∧
    (after (.clearFault h7) (feederIn .breakerFail)).feeder? 7 =
      some { feeder with state := .tripped, cause := some .unknown } := by decide +kernel

/-- A stage 1 share of 10 of a load of 1000 kW arms the 150 kW feeder; one of 50 would fall short. -/
theorem test_shuEvaluationHandover :
    (after .shuEvaluationHandover (mailed (.shuEvaluation 0 1000 500 200 .normal)
      (inGrid .normal (feederIn .closed)))).shu.armed = #v[[7], [], [], []] ∧
    (after .shuEvaluationHandover (mailed (.shuEvaluation 0 2000 500 200 .normal)
      (inGrid .normal (feederIn .closed)))).shu.stageShort = #v[true, true, true, true] ∧
    (after .shuEvaluationHandover (mailed (.shuEvaluation 0 1000 500 200 .normal)
      (inGrid .dark (feederIn .closed)))).shu.armed = #v[[], [], [], []] := by decide +kernel

theorem test_firing :
    (after .armedSetFiring (mailed (.stageRaiseShu 3) (inGrid .normal { feederIn .closed with
        shu := { State.reset.shu with armed := #v[[], [], [], [7]] } }))).feeder? 7 =
      some { feeder with state := .tripped, cause := some (.shedStage 3) } ∧
    (after .shuGridStateChange (mailed (.gridShu .normal .dark) (feederIn .closed))).feeder? 7 =
      some { feeder with state := .tripped, cause := some .dark } := by decide +kernel

theorem test_staggerExpiry :
    (after .staggerExpiry (due .stagger (batched { feeder with state := .tripPending }))).lines[(10 : LineIx)].pulse =
      some 200 ∧
    (after .staggerExpiry (due .stagger (batched { feeder with state := .tripPending, sheddable := false }))).feeder? 7 =
      some { feeder with sheddable := false } := by decide +kernel

theorem test_feederStatusChange :
    (after .feederStatusChange (mailed (.statusShu 12 false 0) (feederIn .closed))).feeder? 7 =
      some { feeder with state := .tripped, cause := some .external } ∧
    (after .feederStatusChange (mailed (.statusShu 12 true 0) (feederIn .closing))).feeder? 7 = some feeder ∧
    (after (.breakerConfirmExpiry 7) (due (.breakerConfirm 7) (feederIn .opening))).feeder? 7 =
      some { feeder with state := .breakerFail } := by decide +kernel

theorem test_pulses :
    (after .recloseDelayExpiry (due .recloseDelay candidate)).lines[(11 : LineIx)].window =
      some { start := 500, stop := 700, started := false } ∧
    (after (.tripPulseEnd 7) (pulsing .opening)).now = 2000000 ∧
    (after (.closeWindowStart 7) (windowed .closePending false)).lines[(11 : LineIx)].driven = true ∧
    (after (.closeWindowEnd 7) (windowed .closing true)).feeder? 7 =
      some { feeder with statusLine := none, lastChange := 300 } := by decide +kernel

/-! The plan -/

theorem test_planWriteStep :
    (after (.planWriteStep 31 2 (some h7) 0 600 2) (feederIn .closed)).rsq.steps[(31 : PosIx)] =
      some { action := .closeFeeder h7, timeout := 600, onFailure := .skip } ∧
    (after (.planSet 32 1) State.reset).rsq.length = 32 := by decide +kernel

theorem test_planRun :
    (after .planRun (inGrid .dark (planIn .idle startStep .pending (gensetIn .stopped)))).rsq.state = .running ∧
    (after .planAbort (planIn .running closeStep .active State.reset)).rsq.status[(0 : PosIx)] = .failed := by
  decide +kernel

theorem test_planEvents :
    (after .rsqGensetOnline (mailed (.gensetOnline 5) (planIn .running startStep .active (gensetIn .online)))).rsq.state
      = .complete ∧
    (after .rsqGensetLockout (mailed (.gensetLockout 5)
      (planIn .running startStep .active (gensetIn .lockout)))).rsq.status[(0 : PosIx)] = .skipped ∧
    (after .rsqFeederClosed (mailed (.feederClosed 7)
      (planIn .running closeStep .active (feederIn .closed)))).rsq.status[(0 : PosIx)] = .done ∧
    (after .rsqFeederBreakerFail (mailed (.feederFail 7)
      (planIn .running closeStep .active (feederIn .closed)))).rsq.status[(0 : PosIx)] = .skipped := by decide +kernel

/-- In RESTORING the next step begins in the event that ends one, and ends at once when it may (R133). -/
theorem test_planGoesOn :
    (after .rsqFeederClosed (mailed (.feederClosed 7) { restoring closeStep .closed with
      rsq := { (restoring closeStep .closed).rsq with
        length := 2, steps := (restoring closeStep .closed).rsq.steps.set 1 (some closeStep) } })).rsq.status[
          (1 : PosIx)] = .done ∧
    (after .rsqGridStateChange (mailed (.gridRsq .dark .restoring)
      (inGrid .restoring (planIn .running releaseStep .pending (placed 6 (.pv pv) State.reset))))).pv? 6 =
      some { pv with planCap := some 100, setpoint := 100 } := by decide +kernel

/-- A failure with SKIP in PAUSED cancels the resume wait with the step settle (R134). -/
theorem test_planSkipPaused :
    (after .rsqFeederBreakerFail (mailed (.feederFail 7) (State.setDeadline .stepSettle 1000
      (planIn .paused closeStep .active (feederIn .closed))))).isSet .stepSettle = false := by decide +kernel

theorem test_planTimers :
    (after .stepTimeoutExpiry (due .stepTimeout (planIn .running closeStep .active (feederIn .closed)))).rsq.state =
      .complete ∧
    (after .stepSettleExpiry (due .stepSettle (planIn .running settleStep .active State.reset))).rsq.state =
      .complete ∧
    (after .resumeWaitExpiry (due .stepSettle (planIn .paused closeStep .active State.reset))).rsq.state = .running ∧
    (after .darkSettleExpiry (due .darkSettle (inGrid .dark { planIn .idle startStep .pending (gensetIn .stopped) with
      rsq := { (planIn .idle startStep .pending (gensetIn .stopped)).rsq with autoRun := true } }))).rsq.state =
      .running := by decide +kernel

theorem test_planAnnouncements :
    (after .planPause (mailed (.stageRaiseRsq 3) (planIn .running closeStep .active State.reset))).rsq.state = .paused ∧
    (after .rsqStageClear (mailed (.stageClearRsq 0) { planIn .paused closeStep .active State.reset with
      rsq := { (planIn .paused closeStep .active State.reset).rsq with
        stageView := #v[true, false, false, false] } })).isSet .stepSettle = true ∧
    (after .rsqDarkDeclaration (mailed .darkRsq (planIn .running closeStep .active State.reset))).rsq.state = .failed ∧
    (after .rsqGridStateChange (mailed (.gridRsq .dark .normal)
      (planIn .paused closeStep .active State.reset))).rsq.state = .failed ∧
    (after .rsqLiveDeclaration (mailed .liveRsq State.reset)).rsq.live = true ∧
    (after .rsqFrequencyUpdate (mailed (.frequency 50500) { planIn .running settleStep .active State.reset with
      rsq := { (planIn .running settleStep .active State.reset).rsq with live := true } })).isSet .stepSettle = true ∧
    (after .rsqEvaluationHandover (mailed (.rsqEvaluation 100 [])
      (planIn .running gateStep .active State.reset))).rsq.state = .complete := by decide +kernel

/-! The Bus Monitor and the pins -/

theorem test_busTimers :
    (after (.ufStageDelayExpiry 3) (due (.ufStage 3) State.reset)).mail =
      [.stageRaiseBlu 3, .stageRaiseShu 3, .stageRaiseRsq 3] ∧
    (after .darkTimerExpiry State.reset).bus.dark = true ∧ (after .darkTimerExpiry State.reset).now = 5000000 ∧
    (after .darkTimerExpiry (level 2 true (lined 2 .genBreakerIn State.reset))).bus.freeze = true ∧
    (after .liveHoldExpiry (due .liveHold { State.reset with
      bus := { State.reset.bus with frequency := 49500 } })).bus.live = true ∧
    (after .bmnBreakerChange (mailed (.breakerBmn 2 false 0) { State.reset with
      bus := { State.reset.bus with noEdge := true } })).bus.dark = true := by decide +kernel

/-- The fifth edge, 80 ms after the first, gives 50 000 mHz; one 99.9 µs after the newest is a glitch. -/
theorem test_zeroCross :
    (after .zeroCrossFilterExpiry (crossing [0, 200000, 400000, 600000]
      (some { till := 801000, stamp := 800000 }))).bus.frequency = 50000 ∧
    (after .zeroCrossFilterExpiry (crossing [800000] (some { till := 801999, stamp := 800999 }))).bus.history =
      [800000] ∧
    (after (.zeroCrossPinChange 5 true) (crossing [] none)).lines[(20 : LineIx)].hold =
      some { till := 1005, stamp := 5 } := by decide +kernel

theorem test_inputFilter :
    (after (.inputPinChange 7 12 true) (input false false 10 none)).lines[(12 : LineIx)].hold =
      some { till := 100007, stamp := 7 } ∧
    (after (.inputFilterExpiry 12) (input true false 10 (some { till := 100007, stamp := 7 }))).lines[(12 : LineIx)] =
      { Line.fresh with function := .statusIn, pin := true, filtered := true, lastChange := some 10 } := by
  decide +kernel

/-- A delivered change carries the value of S at its delivery (R165). -/
theorem test_deliveryTime :
    (after (.inputPinChange 30000 12 true) ((input false false 0 none).modLine 12
      (fun x => { x with function := .genBreakerIn }))).mail = [.breakerGsq 12 true 3, .breakerBmn 12 true 3] := by
  decide +kernel

/-- A deadline passed by 2 to the 31 ms and more is delivered on the way (R162). -/
theorem test_longSpan :
    (State.runTo (10000 * (2 ^ 31 + 6)) { State.reset with scu :=
      { entries := [{ key := .darkTimer, due := 5, period := none }], delivered := [] } }).scu.delivered =
        [.darkTimer] := by decide +kernel

/-! The field link -/

theorem test_pollCycleExpiry :
    (after .pollCycleExpiry (stationed { station with access := .reportOnly } State.reset)).link.transaction =
      some { poll with errand := .poll 2 } ∧
    (after .pollCycleExpiry (onLine none (.endGap 0) (stationed { station with due := true } State.reset))).ntu.held[
      (16 : NoticeIx)] = some { detail := some 9, count := 1 } := by decide +kernel

theorem test_attempts :
    (after .frameTransmitted (onLine (some poll) (.sending 7) State.reset)).link.phase = .waiting 500007 ∧
    (after .replyAllowanceExpiry (onLine (some poll) (.waiting 7) State.reset)).link.phase = .retryGap 100007 ∧
    (after .turnaroundGapEnd (onLine (some poll) (.retryGap 7) State.reset)).link.transaction =
      some { poll with retry := true } ∧
    (after .replyAllowanceExpiry (onLine (some { poll with retry := true }) (.waiting 7)
      (stationed { station with misses := 2 } State.reset))).stations[(0 : DirIx)] =
      some { station with misses := 3, reach := .unreachable } := by decide +kernel

theorem test_replies :
    (after (.fieldFrameReceived (fieldFrame 9 0x82 (u8 0 ++ u16 250))) (onLine (some setpoint) (.waiting 1)
      (stationed station (bound 6 (.pv pv) State.reset)))).pv? 6 = some { pv with lastAck := some 250 } ∧
    (after (.fieldFrameReceived (fieldFrame 9 0x81 [0, 0x2C, 1, 0xFF, 0xFF])) (onLine (some poll) (.waiting 1)
      (stationed station (bound 6 (.pv { pv with output := none, available := none }) State.reset)))).pv? 6 =
      some pv ∧
    (after (.fieldFrameReceived [0xA5]) (onLine (some poll) (.waiting 1) State.reset)).link.transaction =
      some poll := by decide +kernel

/-- Four characters of 10 bits at 230 400 baud are 173.6 µs; they count from the last byte (R149). -/
theorem test_frameReception :
    (after .frameFirstByteReceived State.reset).link.receiving = some 0 ∧
    (after .frameSilenceTimeout (after .frameFirstByteReceived State.reset)).link.receiving = none ∧
    (after .frameSilenceTimeout (after .frameFirstByteReceived State.reset)).now = 1737 ∧
    (after .frameSilenceTimeout (after .frameFirstByteReceived { hearing 0 .free with now := 1736 })).now = 3473 ∧
    (after .frameFirstByteReceived { hearing 0 (.waiting 5) with now := 1737 }).link.phase = .retryGap 101737 := by
  decide +kernel

/-- A written BAUD is used from the next transaction on: a frame that comes before is timed at the old rate
(R159). -/
theorem test_baudInUse :
    (after .frameSilenceTimeout (after .frameFirstByteReceived
      (after (.setParameter 0x50 115200) State.reset))).now = 1737 ∧
    (after .pollCycleExpiry (after (.setParameter 0x50 115200) (stationed station State.reset))).link.rate =
      115200 := by decide +kernel

/-! A step of the machine -/

/-- The state a step answers. -/
def stepped (s : State) : State :=
  match step s with
  | .next t => t
  | _ => s

theorem test_step :
    (stepped { State.reset with pending := [.planSet 3 1, .nop] }).pending = [.nop] ∧
    (stepped { State.reset with pending := [.planSet 3 1, .nop] }).rsq.length = 3 ∧
    (stepped State.reset).now = 10000 ∧ (stepped (hearing 0 .free)).now = 435 ∧ (stepped (mailed .darkBlu State.reset)).blu.grid = .dark := by
  decide +kernel

end Sys2Proof.Tests
end

/-! The tag index and LOOKUP_TAG (R4, R5). -/

namespace Sys2Proof.Machine

/-! ### The tag index (R4) -/

/-- The tag index finds a slot and record exactly when that record holds the tag and no record of a lower slot
does. Tags are not supposed unique here, so the lowest slot decides. -/
theorem State.tagged_eq_some {s : State} {tag : Nat} {i : SlotIx} {r : Record} :
    s.tagged tag = some (i, r) ↔
      s.record? i = some r ∧ r.tag = tag ∧
        ∀ j r', j < i → s.record? j = some r' → r'.tag ≠ tag := by
  unfold State.tagged allSlots
  rw [← Fin.findSome?_eq_findSome?_finRange, Fin.findSome?_eq_some_iff]
  constructor
  · rintro ⟨k, hk, below⟩
    obtain ⟨⟨hr, ht⟩, rfl⟩ : (s.record? k = some r ∧ r.tag = tag) ∧ k = i := by
      simpa [Option.filter_eq_some_iff] using hk
    exact ⟨hr, ht, fun j r' hj hr' => by simpa [hr', Option.filter] using below j hj⟩
  · rintro ⟨hr, ht, below⟩
    refine ⟨i, by simp [hr, ht, Option.filter], fun j hj => ?_⟩
    simpa [Option.filter_eq_none_iff] using fun r' hr' => below j r' hj hr'

/-- The tag index finds nothing exactly when no record holds the tag. -/
theorem State.tagged_eq_none {s : State} {tag : Nat} :
    s.tagged tag = none ↔ ∀ i r, s.record? i = some r → r.tag ≠ tag := by
  simp [State.tagged, allSlots, List.findSome?_eq_none_iff, Option.filter_eq_none_iff]

/-! ### LOOKUP_TAG (R5) -/

/-- A LOOKUP_TAG that is taken does what its owner does. -/
theorem exec_lookupTag {tag : Nat} {s : State} (h : s.serves (.lookupTag tag)) :
    exec (.lookupTag tag) s = .next (s.lookupRequest tag) :=
  congrArg Host.Outcome.next (State.serve_serves h)

/-- Tag 0 marks the absence of a tag and is refused. -/
theorem State.lookupRequest_zero (s : State) :
    s.lookupRequest 0 = s.refuse (.lookupTag 0) .outOfRange := rfl

/-- The answer for a tag the index finds. -/
theorem State.lookupRequest_found {s : State} {tag : Nat} {i : SlotIx} {r : Record} (h0 : tag ≠ 0)
    (h : s.tagged tag = some (i, r)) :
    s.lookupRequest tag = s.respond (.lookupTag tag) .ok
      (u8 1 ++ u16 (i.val + 64 * s.gen i) ++ u8 r.body.kind.code ++ u8 r.lifecycle.code) := by
  simp only [State.lookupRequest, if_neg h0, h]
  rfl

/-- The answer for a tag the index does not find. -/
theorem State.lookupRequest_absent {s : State} {tag : Nat} (h0 : tag ≠ 0) (h : s.tagged tag = none) :
    s.lookupRequest tag = s.respond (.lookupTag tag) .ok [0, 0, 0, 0, 0] := by
  simp only [State.lookupRequest, if_neg h0, h]
  rfl

/-- Settles O16: the request is taken, and its answer follows what the tag index finds. -/
theorem lookupTagFindsTheHolder : Obligations.LookupTagFindsTheHolder := by
  intro tag s hserves
  rw [exec_lookupTag hserves]
  refine ⟨?zero, ?found, ?absent⟩
  case zero =>
    rintro rfl
    rw [State.lookupRequest_zero]
  case found =>
    intro i r h0 hr ht below
    rw [State.lookupRequest_found h0 (State.tagged_eq_some.2 ⟨hr, ht, below⟩)]
  case absent =>
    intro h0 unheld
    rw [State.lookupRequest_absent h0 (State.tagged_eq_none.2 unheld)]

end Sys2Proof.Machine

/-! Zero-cross edges, the frequency and the under-frequency stages (R44 to R49, R52, R55, R56). -/

namespace Sys2Proof.Machine

/-! ### Deadlines that stand, and deadlines set anew (R161) -/

/-- A step that leaves the schedule alone keeps every deadline. -/
theorem State.keepsDeadline_of_scu {s t : State} (h : t.scu = s.scu) (key : DeadlineKey) :
    s.keepsDeadline t key := by
  simp [State.keepsDeadline, h]

theorem State.keepsDeadline_modBus (f : BusMonitor → BusMonitor) (s : State) (key : DeadlineKey) :
    s.keepsDeadline (s.modBus f) key := State.keepsDeadline_of_scu rfl key

theorem State.keepsDeadline.trans {s t u : State} {key : DeadlineKey} (h : s.keepsDeadline t key)
    (h' : t.keepsDeadline u key) : s.keepsDeadline u key :=
  ⟨fun d hd => (h'.1 d hd).trans (h.1 d hd), h'.2.trans h.2⟩

/-- Whether a deadline is set, in terms of membership. -/
theorem State.isSet_iff {s : State} {key : DeadlineKey} :
    s.isSet key = true ↔ (∃ d ∈ s.scu.entries, d.key = key) ∨ key ∈ s.scu.delivered := by
  simp [State.isSet]

/-- A deadline that stands as it stood is set exactly when it was. -/
theorem State.keepsDeadline.isSet_eq {s t : State} {key : DeadlineKey} (h : s.keepsDeadline t key) :
    t.isSet key = s.isSet key := by
  obtain ⟨entries, delivered⟩ := h
  rw [Bool.eq_iff_iff, State.isSet_iff, State.isSet_iff, delivered]
  exact or_congr_left ⟨fun ⟨d, hd, hk⟩ => ⟨d, (entries d hk).1 hd, hk⟩,
    fun ⟨d, hd, hk⟩ => ⟨d, (entries d hk).2 hd, hk⟩⟩

/-- From `s` to `t` a deadline has been set to fall due `delay` after S: its one entry says so, and no expiry
of it waits. -/
def State.setsAnew (s t : State) (key : DeadlineKey) (delay : Nat) : Prop :=
  key ∉ t.scu.delivered ∧ ∀ d : Deadline, d.key = key →
    (d ∈ t.scu.entries ↔ d = ⟨key, s.timeS + BitVec.ofNat 32 delay, none⟩)

/-- With a delay other than 0, setting a deadline sets it anew (R161). -/
theorem State.setsAnew_setDeadline {delay : Nat} (h : delay ≠ 0) (key : DeadlineKey) (s : State) :
    s.setsAnew (s.setDeadline key delay) key delay := by
  simp only [State.setDeadline, State.setDeadlineWith, if_neg h]
  refine ⟨by simp [State.cancel], fun d hd => ?_⟩
  simp [State.cancel, hd, State.timeS]

theorem State.setsAnew.keeps {s t u : State} {key : DeadlineKey} {delay : Nat}
    (h : s.setsAnew t key delay) (h' : t.keepsDeadline u key) : s.setsAnew u key delay :=
  ⟨fun hm => h.1 (h'.2.1 hm), fun d hd => (h'.1 d hd).trans (h.2 d hd)⟩

/-! ### The test of one stage (R47 to R49) -/

/-- What the test of a stage does to its flag and to the state, case by case. -/
inductive StageTested (s : State) (k : StageIx) : Bool → State → Prop where
  | clears : s.bus.raised[k] = true →
      s.param (.ufThreshold k) + s.param (.ufHysteresis k) ≤ s.bus.frequency →
      StageTested s k false (s.stageClear k)
  | staysRaised : s.bus.raised[k] = true →
      s.bus.frequency < s.param (.ufThreshold k) + s.param (.ufHysteresis k) → StageTested s k true s
  | cancels : s.bus.raised[k] = false → s.param (.ufThreshold k) ≤ s.bus.frequency →
      StageTested s k false (s.cancel (.ufStage k))
  | counts : s.bus.raised[k] = false → s.bus.frequency < s.param (.ufThreshold k) →
      s.isSet (.ufStage k) = true → StageTested s k false s
  | raises : s.bus.raised[k] = false → s.bus.frequency < s.param (.ufThreshold k) →
      s.isSet (.ufStage k) = false → s.param (.ufDelay k) = 0 → StageTested s k true (s.stageRaise k)
  | starts : s.bus.raised[k] = false → s.bus.frequency < s.param (.ufThreshold k) →
      s.isSet (.ufStage k) = false → s.param (.ufDelay k) ≠ 0 →
      StageTested s k false (s.setDeadline (.ufStage k) (s.param (.ufDelay k)))

theorem State.testClear_tested {k : StageIx} {s : State} (raised : s.bus.raised[k] = true) :
    ∃ b, StageTested s k b (s.testClear k) := by
  unfold State.testClear
  split
  next above => exact ⟨_, .clears raised above⟩
  next below => exact ⟨_, .staysRaised raised (by omega)⟩

theorem State.testThreshold_tested {k : StageIx} {s : State} (clear : s.bus.raised[k] = false) :
    ∃ b, StageTested s k b (s.testThreshold k) := by
  unfold State.testThreshold
  split
  next below =>
    split
    next running => exact ⟨_, .counts clear below running⟩
    next idle =>
      have idle := Bool.eq_false_iff.2 idle
      split
      next noDelay => exact ⟨_, .raises clear below idle noDelay⟩
      next delay => exact ⟨_, .starts clear below idle delay⟩
  next above => exact ⟨_, .cancels clear (by omega)⟩

theorem State.testStage_tested (k : StageIx) (s : State) : ∃ b, StageTested s k b (s.testStage k) := by
  unfold State.testStage
  split
  next raised => exact State.testClear_tested raised
  next clear => exact State.testThreshold_tested (Bool.eq_false_iff.2 clear)

/-- The flag of a stage once it is tested at frequency `f`: a raised stage clears at its threshold with the
hysteresis, and a clear one is raised below its threshold where no delay runs and its delay is 0. -/
def State.stageAfter (s : State) (f : Nat) (k : StageIx) : Bool :=
  if s.bus.raised[k] then decide (f < s.param (.ufThreshold k) + s.param (.ufHysteresis k))
  else decide (f < s.param (.ufThreshold k)) && !s.isSet (.ufStage k) && decide (s.param (.ufDelay k) = 0)

/-- What the test of a stage at frequency `f`, made in `s`, leaves of its delay in `t` (R47). -/
structure State.StageDelayed (s : State) (f : Nat) (k : StageIx) (t : State) : Prop where
  raised : s.bus.raised[k] = true → s.keepsDeadline t (.ufStage k)
  above : s.bus.raised[k] = false → s.param (.ufThreshold k) ≤ f → t.isSet (.ufStage k) = false
  kept : s.bus.raised[k] = false → f < s.param (.ufThreshold k) →
    (s.isSet (.ufStage k) = true ∨ s.param (.ufDelay k) = 0) → s.keepsDeadline t (.ufStage k)
  started : s.bus.raised[k] = false → f < s.param (.ufThreshold k) → s.isSet (.ufStage k) = false →
    s.param (.ufDelay k) ≠ 0 → s.setsAnew t (.ufStage k) (s.param (.ufDelay k))

/-- The messages by which a stage whose flag goes from `old` to `new` is handed on (R48, R49). -/
def stageMail (k : StageIx) (old new : Bool) : List Message :=
  if old = false ∧ new = true then [.stageRaiseBlu k, .stageRaiseShu k, .stageRaiseRsq k]
  else if old = true ∧ new = false then [.stageClearRsq k]
  else []

/-- The notice that a stage whose flag goes from `old` to `new` raises (R48). -/
def stageNotice (k : StageIx) (old new : Bool) (u : State) : State :=
  if old = false ∧ new = true then u.raise NoticeKind.stageRaised (some (k.val + 1)) else u

/-- The re-evaluation that a stage whose flag goes from `old` to `new` asks for (R48, R49). -/
def stageAsks (old new : Bool) (b : BalanceUnit) : BalanceUnit :=
  { b with reevaluation := b.reevaluation || (old != new) }

/-- What a raise leaves of NTU rests on the notices and the parameters alone. -/
theorem State.raise_ntu_congr {s u : State} (hn : s.ntu = u.ntu) (hp : ∀ p, s.param p = u.param p)
    (n : NoticeIx) (detail : Option Nat) : (s.raise n detail).ntu = (u.raise n detail).ntu := by
  have hp' := hp .notifyThreshold
  simp only [State.param] at hp'
  simp [State.raise, State.judge, State.param, hn, hp']

section StageTested

variable {s t : State} {k : StageIx} {b : Bool}

theorem StageTested.stageAfter_eq (h : StageTested s k b t) : s.stageAfter s.bus.frequency k = b := by
  unfold State.stageAfter
  cases h with
  | clears raised above => simp [-Fin.getElem_fin, raised, above]
  | staysRaised raised below => simp [-Fin.getElem_fin, raised, below]
  | cancels clear above => simp [-Fin.getElem_fin, clear, above]
  | counts clear below running => simp [-Fin.getElem_fin, clear, running]
  | raises clear below idle noDelay => simp [-Fin.getElem_fin, clear, below, idle, noDelay]
  | starts clear below idle delay => simp [-Fin.getElem_fin, clear, delay]

/-- The test of a stage touches its own flag alone of what BMN holds. -/
theorem StageTested.bus_eq (h : StageTested s k b t) :
    t.bus = { s.bus with raised := s.bus.raised.set k b } := by
  have same : ∀ b, s.bus.raised[k] = b → s.bus.raised.set k b = s.bus.raised := by
    rintro b rfl; simp
  cases h with
  | clears | raises => rfl
  | staysRaised raised | cancels raised | counts raised | starts raised => simp [same _ raised]

theorem StageTested.raised_other (h : StageTested s k b t) {j : StageIx} (ne : j ≠ k) :
    t.bus.raised[j] = s.bus.raised[j] := by
  have ne' : k.val ≠ j.val := fun e => ne (Fin.ext e.symm)
  simp [h.bus_eq, ne']

theorem StageTested.timeS_eq (h : StageTested s k b t) : t.timeS = s.timeS := by
  cases h <;> simp

theorem StageTested.param_eq (h : StageTested s k b t) (p : Param) : t.param p = s.param p := by
  cases h <;> simp

theorem StageTested.mail_eq (h : StageTested s k b t) :
    t.mail = s.mail ++ stageMail k s.bus.raised[k] b := by
  cases h with
  | clears raised | raises raised | staysRaised raised | cancels raised | counts raised | starts raised =>
    rw [raised]; simp [stageMail, State.stageClear, State.stageRaise]

theorem StageTested.blu_eq (h : StageTested s k b t) :
    t.blu = stageAsks s.bus.raised[k] b s.blu := by
  cases h with
  | clears raised | raises raised | staysRaised raised | cancels raised | counts raised | starts raised =>
    rw [raised]; simp [stageAsks, State.stageClear, State.stageRaise, State.askReevaluation]

theorem StageTested.ntu_eq (h : StageTested s k b t) :
    t.ntu = (stageNotice k s.bus.raised[k] b s).ntu := by
  cases h with
  | raises clear =>
    rw [clear]
    exact State.raise_ntu_congr (by simp [State.askReevaluation])
      (by simp [State.askReevaluation, State.param]) _ _
  | clears raised | staysRaised raised | cancels raised | counts raised | starts raised =>
    rw [raised]; simp [stageNotice]

/-- No deadline but the stage's own differs. -/
theorem StageTested.keepsDeadline_other (h : StageTested s k b t) {key : DeadlineKey}
    (ne : key ≠ .ufStage k) : s.keepsDeadline t key := by
  cases h with
  | clears | raises | staysRaised | counts => exact State.keepsDeadline_of_scu (by simp) key
  | cancels => exact State.keepsDeadline_cancel ne s
  | starts => exact State.keepsDeadline_setDeadline ne _ s

theorem StageTested.stageDelayed (h : StageTested s k b t) : s.StageDelayed s.bus.frequency k t := by
  have stands : t.scu = s.scu → s.keepsDeadline t (.ufStage k) := (State.keepsDeadline_of_scu · _)
  cases h with
  | clears raised | staysRaised raised =>
    exact ⟨fun _ => stands (by simp), fun clear => by simp [raised] at clear,
      fun clear => by simp [raised] at clear, fun clear => by simp [raised] at clear⟩
  | cancels clear above =>
    exact ⟨fun raised => by simp [clear] at raised, fun _ _ => by simp, fun _ below => by omega,
      fun _ below => by omega⟩
  | counts clear below running =>
    exact ⟨fun _ => stands rfl, fun _ above => by omega, fun _ _ _ => stands rfl,
      fun _ _ idle => by simp [running] at idle⟩
  | raises clear below idle noDelay =>
    exact ⟨fun _ => stands (by simp), fun _ above => by omega, fun _ _ _ => stands (by simp),
      fun _ _ _ delay => absurd noDelay delay⟩
  | starts clear below idle delay =>
    exact ⟨fun raised => by simp [clear] at raised, fun _ above => by omega,
      fun _ _ stays => by simp [idle, delay] at stays, fun _ _ _ _ => State.setsAnew_setDeadline delay _ _⟩

end StageTested

/-! ### The pass over the stages (R45, R47) -/

/-- Nothing that the test of stage `k` looks at differs, the frequency apart. -/
structure State.SameForStage (s : State) (k : StageIx) (t : State) : Prop where
  raised : t.bus.raised[k] = s.bus.raised[k]
  param : ∀ p, t.param p = s.param p
  timeS : t.timeS = s.timeS
  delay : s.keepsDeadline t (.ufStage k)

section SameForStage

variable {s t u : State} {k : StageIx} {f : Nat}

theorem State.SameForStage.refl : s.SameForStage k s :=
  ⟨rfl, fun _ => rfl, rfl, State.keepsDeadline_of_scu rfl _⟩

theorem State.SameForStage.trans (h : s.SameForStage k t) (h' : t.SameForStage k u) :
    s.SameForStage k u :=
  ⟨h'.raised.trans h.raised, fun p => (h'.param p).trans (h.param p), h'.timeS.trans h.timeS,
    h.delay.trans h'.delay⟩

theorem State.SameForStage.stageAfter_eq (h : s.SameForStage k t) : t.stageAfter f k = s.stageAfter f k := by
  simp only [State.stageAfter, h.raised, h.param, h.delay.isSet_eq]

/-- A test made in a state in which nothing of the stage differs tells of the earlier state. -/
theorem State.SameForStage.stageDelayed (h : s.SameForStage k t) (d : t.StageDelayed f k u) :
    s.StageDelayed f k u := by
  obtain ⟨raised, above, kept, started⟩ := d
  simp only [h.raised, h.param, h.delay.isSet_eq, State.setsAnew, h.timeS] at raised above kept started
  exact ⟨fun c => h.delay.trans (raised c), above, fun c b i => h.delay.trans (kept c b i), started⟩

/-- What a test left of a delay is still there after steps that keep the deadline. -/
theorem State.StageDelayed.keeps (d : s.StageDelayed f k t) (h : t.keepsDeadline u (.ufStage k)) :
    s.StageDelayed f k u :=
  ⟨fun c => (d.raised c).trans h, fun c b => h.isSet_eq.trans (d.above c b),
    fun c b i => (d.kept c b i).trans h, fun c b i n => (d.started c b i n).keeps h⟩

end SameForStage

section Pass

variable {s : State} {ks : List StageIx}

theorem State.each_cons {α : Type} (a : α) (l : List α) (g : α → State → State) (s : State) :
    s.each (a :: l) g = (g a s).each l g := rfl

theorem State.each_append {α : Type} (l m : List α) (g : α → State → State) (s : State) :
    s.each (l ++ m) g = (s.each l g).each m g := List.foldl_append

/-- The test of one stage changes nothing that the test of another looks at. -/
theorem State.testStage_sameForStage {j k : StageIx} (ne : j ≠ k) (s : State) :
    s.SameForStage j (s.testStage k) := by
  obtain ⟨b, h⟩ := State.testStage_tested k s
  exact ⟨h.raised_other ne, h.param_eq, h.timeS_eq, h.keepsDeadline_other (by simpa using ne)⟩

theorem State.each_testStage_sameForStage {j : StageIx} (h : j ∉ ks) :
    s.SameForStage j (s.each ks State.testStage) := by
  induction ks generalizing s with
  | nil => exact .refl
  | cons k ks ih =>
    rw [List.mem_cons, not_or] at h
    exact (State.testStage_sameForStage h.1 s).trans (ih h.2)

/-- A pass over stages keeps the other deadlines. -/
theorem State.each_testStage_keepsDeadline {key : DeadlineKey} (h : ∀ k, key ≠ .ufStage k) :
    s.keepsDeadline (s.each ks State.testStage) key := by
  induction ks generalizing s with
  | nil => exact State.keepsDeadline_of_scu rfl _
  | cons k ks ih =>
    obtain ⟨b, tested⟩ := State.testStage_tested k s
    exact (tested.keepsDeadline_other (h k)).trans ih

/-- A pass over stages touches their flags alone of what BMN holds. -/
theorem State.each_testStage_bus :
    ∃ flags, (s.each ks State.testStage).bus = { s.bus with raised := flags } := by
  induction ks generalizing s with
  | nil => exact ⟨_, rfl⟩
  | cons k ks ih =>
    obtain ⟨b, tested⟩ := State.testStage_tested k s
    obtain ⟨flags, h⟩ := ih (s := s.testStage k)
    exact ⟨flags, by rw [State.each_cons, h, tested.bus_eq]⟩

/-- In a pass over distinct stages each one is tested once, between steps that leave it alone. -/
theorem State.each_testStage_tests {k : StageIx} (nodup : ks.Nodup) (hk : k ∈ ks) :
    ∃ u, s.SameForStage k u ∧ u.bus.frequency = s.bus.frequency ∧
      (u.testStage k).SameForStage k (s.each ks State.testStage) := by
  obtain ⟨before, rest, rfl⟩ := List.append_of_mem hk
  obtain ⟨-, nodup', apart⟩ := List.nodup_append.1 nodup
  have hb : k ∉ before := fun h => apart k h k List.mem_cons_self rfl
  refine ⟨s.each before State.testStage, State.each_testStage_sameForStage hb, ?_, ?_⟩
  · obtain ⟨flags, h⟩ := State.each_testStage_bus (s := s) (ks := before)
    rw [h]
  · rw [State.each_append, State.each_cons]
    exact State.each_testStage_sameForStage (List.nodup_cons.1 nodup').1

theorem State.each_testStage_raised {k : StageIx} (nodup : ks.Nodup) (hk : k ∈ ks) :
    (s.each ks State.testStage).bus.raised[k] = s.stageAfter s.bus.frequency k := by
  obtain ⟨u, before, hf, after⟩ := State.each_testStage_tests (s := s) nodup hk
  obtain ⟨b, tested⟩ := State.testStage_tested k u
  rw [after.raised, tested.bus_eq, ← before.stageAfter_eq, ← hf, tested.stageAfter_eq]
  simp

theorem State.each_testStage_delayed {k : StageIx} (nodup : ks.Nodup) (hk : k ∈ ks) :
    s.StageDelayed s.bus.frequency k (s.each ks State.testStage) := by
  obtain ⟨u, before, hf, after⟩ := State.each_testStage_tests (s := s) nodup hk
  obtain ⟨b, tested⟩ := State.testStage_tested k u
  exact before.stageDelayed (hf ▸ tested.stageDelayed.keeps after.delay)

/-- What follows each test of a stage follows the pass: a relation `R` of the state with something that a test
changes by the old and the new flag of its stage alone. -/
theorem State.each_testStage_follows {α : Type} (R : State → α → Prop)
    (g : StageIx → Bool → Bool → α → α)
    (step : ∀ s t k b a, StageTested s k b t → R s a → R t (g k s.bus.raised[k] b a))
    (nodup : ks.Nodup) {a : α} (h : R s a) :
    R (s.each ks State.testStage)
      (ks.foldl (fun a k => g k s.bus.raised[k] (s.stageAfter s.bus.frequency k) a) a) := by
  induction ks generalizing s a with
  | nil => exact h
  | cons k ks ih =>
    obtain ⟨hk, nodup⟩ := List.nodup_cons.1 nodup
    obtain ⟨b, tested⟩ := State.testStage_tested k s
    have hf : (s.testStage k).bus.frequency = s.bus.frequency := by rw [tested.bus_eq]
    have rest := ih nodup (step s _ k b a tested h)
    rw [State.each_cons, List.foldl_cons, tested.stageAfter_eq]
    convert rest using 1
    refine List.foldl_ext _ _ _ fun a j hj => ?_
    have same := State.testStage_sameForStage (j := j) (k := k) (fun e => hk (e ▸ hj)) s
    rw [hf, same.raised, same.stageAfter_eq]

theorem State.each_testStage_mail (nodup : ks.Nodup) :
    (s.each ks State.testStage).mail = s.mail ++ ks.flatMap fun k =>
      stageMail k s.bus.raised[k] (s.stageAfter s.bus.frequency k) := by
  rw [State.each_testStage_follows (fun s m => s.mail = m) (fun k old new m => m ++ stageMail k old new)
    (fun s t k b m tested h => by rw [tested.mail_eq, h]) nodup rfl, List.foldl_append_eq_append,
    List.flatMap_def]

theorem foldl_stageAsks (old new : StageIx → Bool) (b : BalanceUnit) :
    ks.foldl (fun b k => stageAsks (old k) (new k) b) b =
      { b with reevaluation := b.reevaluation || (ks.any fun k => old k != new k) } := by
  induction ks generalizing b with
  | nil => simp
  | cons k ks ih => rw [List.foldl_cons, ih]; simp [stageAsks, Bool.or_assoc]

theorem State.each_testStage_blu (nodup : ks.Nodup) :
    (s.each ks State.testStage).blu = { s.blu with reevaluation := s.blu.reevaluation ||
      (ks.any fun k => s.bus.raised[k] != s.stageAfter s.bus.frequency k) } := by
  rw [← foldl_stageAsks]
  exact State.each_testStage_follows (fun s b => s.blu = b) (fun _ => stageAsks)
    (fun s t k b m tested h => by rw [tested.blu_eq, h]) nodup rfl

theorem stageNotice_ntu_congr {s u : State} (hn : s.ntu = u.ntu) (hp : ∀ p, s.param p = u.param p)
    (k : StageIx) (old new : Bool) : (stageNotice k old new s).ntu = (stageNotice k old new u).ntu := by
  unfold stageNotice
  split
  · exact State.raise_ntu_congr hn hp _ _
  · exact hn

/-- The notices of a pass, for any state `u` of the same notices and parameters. -/
theorem State.each_testStage_ntu (nodup : ks.Nodup) {u : State} (hn : s.ntu = u.ntu)
    (hp : ∀ p, s.param p = u.param p) :
    (s.each ks State.testStage).ntu = (ks.foldl (fun u k =>
      stageNotice k s.bus.raised[k] (s.stageAfter s.bus.frequency k) u) u).ntu :=
  (State.each_testStage_follows (fun s u => s.ntu = u.ntu ∧ ∀ p, s.param p = u.param p) stageNotice
    (fun s t k b u tested ⟨hn, hp⟩ =>
      ⟨by rw [tested.ntu_eq, stageNotice_ntu_congr hn hp],
        fun p => by rw [tested.param_eq, hp]; simp [stageNotice]⟩)
    nodup ⟨hn, hp⟩).1

end Pass

/-! ### The frequency (R45) -/

/-- A span of four periods that is no glitch gives a frequency from 40 000 to 70 000 mHz (R44, R45). -/
theorem frequencyOf_bounds {p : Nat} (h : Config.minSpan ≤ p) :
    40000 ≤ frequencyOf p ∧ frequencyOf p ≤ 70000 := by
  unfold frequencyOf Config.maxSpan Config.freqScale
  unfold Config.minSpan at h
  split
  · omega
  · have hp : 0 < p := by omega
    exact ⟨(Nat.le_div_iff_mul_le hp).2 (by omega),
      Nat.le_of_lt_succ ((Nat.div_lt_iff_lt_mul hp).2 (by omega))⟩

section TakeFrequency

variable {s : State} {f : Nat} {k : StageIx}

/-- BMN with the new frequency, before the stages are tested (R45, R55). -/
def State.withFrequency (f : Nat) (s : State) : State :=
  s.modBus (fun b => { b with frequency := f, freeze := false })

/-- What a frequency update does once the frequency is computed (R45, R55). -/
def State.takeFrequency (f : Nat) (s : State) : State :=
  ((s.withFrequency f).each allStages State.testStage).hand (.frequency f)

theorem State.frequencyUpdate_eq (oldest newest : Time) (s : State) :
    s.frequencyUpdate oldest newest = s.takeFrequency (frequencyOf (newest - oldest).toNat) := rfl

theorem State.withFrequency_sameForStage : s.SameForStage k (s.withFrequency f) :=
  ⟨rfl, fun _ => rfl, rfl, State.keepsDeadline_of_scu rfl _⟩

theorem allStages_nodup : allStages.Nodup := List.nodup_finRange 4

theorem mem_allStages (k : StageIx) : k ∈ allStages := List.mem_finRange k

/-- A new frequency touches the frequency, the freeze and the flags alone of what BMN holds. -/
theorem State.takeFrequency_bus : ∃ flags, (s.takeFrequency f).bus =
    { s.bus with frequency := f, freeze := false, raised := flags } := by
  simp only [State.takeFrequency, State.hand_frame]
  obtain ⟨flags, h⟩ := State.each_testStage_bus (ks := allStages) (s := s.withFrequency f)
  exact ⟨flags, h⟩

theorem State.takeFrequency_raised : (s.takeFrequency f).bus.raised[k] = s.stageAfter f k := by
  simp only [State.takeFrequency, State.hand_frame]
  rw [State.each_testStage_raised allStages_nodup (mem_allStages k)]
  exact State.withFrequency_sameForStage.stageAfter_eq

theorem State.takeFrequency_delayed : s.StageDelayed f k (s.takeFrequency f) := by
  have delayed := State.each_testStage_delayed allStages_nodup (mem_allStages k) (s := s.withFrequency f)
  exact State.withFrequency_sameForStage.stageDelayed
    (delayed.keeps (State.keepsDeadline_of_scu (by simp [State.takeFrequency]) _))

theorem State.takeFrequency_keepsDeadline {key : DeadlineKey} (h : ∀ k, key ≠ .ufStage k) :
    s.keepsDeadline (s.takeFrequency f) key := by
  have given : s.keepsDeadline (s.withFrequency f) key := State.keepsDeadline_modBus _ s key
  exact given.trans ((State.each_testStage_keepsDeadline (ks := allStages) h).trans
    (State.keepsDeadline_of_scu (by simp [State.takeFrequency]) _))

theorem State.takeFrequency_mail : (s.takeFrequency f).mail =
    s.mail ++ (allStages.flatMap fun k =>
      stageMail k s.bus.raised[k] (s.takeFrequency f).bus.raised[k]) ++ [.frequency f] := by
  simp only [State.takeFrequency_raised]
  rw [State.takeFrequency, State.hand_mail, State.each_testStage_mail allStages_nodup]
  simp only [State.withFrequency_sameForStage.stageAfter_eq, State.withFrequency_sameForStage.raised]
  rfl

theorem State.takeFrequency_blu : (s.takeFrequency f).blu =
    { s.blu with reevaluation := s.blu.reevaluation ||
      (allStages.any fun k => s.bus.raised[k] != (s.takeFrequency f).bus.raised[k]) } := by
  simp only [State.takeFrequency_raised]
  simp only [State.takeFrequency, State.hand_frame]
  rw [State.each_testStage_blu allStages_nodup]
  simp only [State.withFrequency_sameForStage.stageAfter_eq, State.withFrequency_sameForStage.raised]
  rfl

/-- The notices of a frequency update, for any state `u` of the same notices and parameters. -/
theorem State.takeFrequency_ntu {u : State} (hn : s.ntu = u.ntu) (hp : ∀ p, s.param p = u.param p) :
    (s.takeFrequency f).ntu = (allStages.foldl (fun u k =>
      stageNotice k s.bus.raised[k] (s.takeFrequency f).bus.raised[k] u) u).ntu := by
  simp only [State.takeFrequency_raised]
  simp only [State.takeFrequency, State.hand_frame]
  rw [State.each_testStage_ntu (s := s.withFrequency f) allStages_nodup hn hp]
  simp only [State.withFrequency_sameForStage.stageAfter_eq, State.withFrequency_sameForStage.raised]
  rfl

end TakeFrequency

/-! ### An accepted edge (R44) -/

/-- The state after an edge has joined the history, restarted the dark timer and ended the no-edge and DARK
conditions. -/
def State.edgeStamped (t : Time) (s : State) : State :=
  ((s.modBus (fun b => { b with history := joinHistory t b.history })).setDeadline .darkTimer
    (s.param .darkTime)).modBus (fun b => { b with noEdge := false, dark := false })

/-- The state after an accepted edge, before any frequency update. -/
def State.edgeJoined (t : Time) (s : State) : State := (s.edgeStamped t).startLiveHold

theorem joinHistory_eq (t : Time) (l : List Time) :
    joinHistory t l = (if l.length < 5 then l else l.tail) ++ [t] := by
  unfold joinHistory
  by_cases h : l.length < 5
  · rw [if_neg (by omega), if_pos h]
  · rw [if_pos (by omega), if_neg h]

theorem fourBack_eq {l : List Time} (h : l.length ≤ 5) :
    fourBack l = if 4 ≤ l.length then (l.drop (l.length - 4)).head? else none := by
  match l, h with
  | [], _ | [_], _ | [_, _], _ | [_, _, _], _ | [_, _, _, _], _ | [_, _, _, _, _], _ => rfl

/-- The oldest stamp of a history that an edge has filled is the one four places before the edge. -/
theorem joinHistory_head? {t : Time} {l : List Time} (four : 4 ≤ l.length) (five : l.length ≤ 5) :
    (joinHistory t l).head? = fourBack l := by
  match l, four, five with
  | [_, _, _, _], _, _ | [_, _, _, _, _], _, _ => rfl

section EdgeAccepted

variable {s : State} {t : Time}

theorem State.edgeStamped_bus : (s.edgeStamped t).bus =
    { s.bus with history := joinHistory t s.bus.history, noEdge := false, dark := false } := by
  simp [State.edgeStamped, State.modBus]

theorem State.edgeJoined_bus : (s.edgeJoined t).bus =
    { s.bus with history := joinHistory t s.bus.history, noEdge := false, dark := false } := by
  simp [State.edgeJoined, State.edgeStamped_bus]

theorem State.edgeStamped_timeS : (s.edgeStamped t).timeS = s.timeS := by simp [State.edgeStamped]

theorem State.edgeStamped_param (p : Param) : (s.edgeStamped t).param p = s.param p := by
  simp [State.edgeStamped]

theorem State.edgeStamped_keepsDeadline {key : DeadlineKey} (h : key ≠ .darkTimer) :
    s.keepsDeadline (s.edgeStamped t) key := by
  unfold State.edgeStamped
  exact (State.keepsDeadline_modBus _ s key).trans
    ((State.keepsDeadline_setDeadline h (s.param .darkTime) _).trans (State.keepsDeadline_modBus _ _ key))

/-- The dark timer is restarted by every accepted edge (R44, R52). -/
theorem State.edgeStamped_darkTimer (h : 0 < s.param .darkTime) :
    s.setsAnew (s.edgeStamped t) .darkTimer (s.param .darkTime) := by
  unfold State.edgeStamped
  exact (State.setsAnew_setDeadline (Nat.pos_iff_ne_zero.1 h) .darkTimer (s.modBus _)).keeps
    (State.keepsDeadline_modBus _ _ _)

theorem State.startLiveHold_idle (h : s.bus.live = true ∨ s.isSet .liveHold = true) :
    s.startLiveHold = s := by
  rcases h with h | h <;> simp [State.startLiveHold, h]

theorem State.startLiveHold_starts (live : s.bus.live = false) (idle : s.isSet .liveHold = false) :
    s.startLiveHold = s.setDeadline .liveHold (s.param .liveHold) := by
  simp [State.startLiveHold, live, idle]

theorem State.startLiveHold_keepsDeadline {key : DeadlineKey} (h : key ≠ .liveHold) :
    s.keepsDeadline s.startLiveHold key := by
  unfold State.startLiveHold
  split
  · exact State.keepsDeadline_setDeadline h _ s
  · exact State.keepsDeadline_of_scu rfl _

theorem State.edgeJoined_keepsDeadline {key : DeadlineKey} (dark : key ≠ .darkTimer)
    (live : key ≠ .liveHold) : s.keepsDeadline (s.edgeJoined t) key :=
  (State.edgeStamped_keepsDeadline dark).trans (State.startLiveHold_keepsDeadline live)

theorem State.edgeJoined_darkTimer (h : 0 < s.param .darkTime) :
    s.setsAnew (s.edgeJoined t) .darkTimer (s.param .darkTime) :=
  (State.edgeStamped_darkTimer h).keeps (State.startLiveHold_keepsDeadline (by simp))

/-- A live bus, or a live hold that runs, keeps the live hold (R44, R56). -/
theorem State.edgeJoined_liveHold_kept (h : s.bus.live = true ∨ s.isSet .liveHold = true) :
    s.keepsDeadline (s.edgeJoined t) .liveHold := by
  have kept : s.keepsDeadline (s.edgeStamped t) .liveHold := State.edgeStamped_keepsDeadline (by simp)
  rw [State.edgeJoined, State.startLiveHold_idle (by rwa [State.edgeStamped_bus, kept.isSet_eq])]
  exact kept

/-- On a bus that is not live with no live hold running, the live hold starts (R44, R56). -/
theorem State.edgeJoined_liveHold_started (live : s.bus.live = false) (idle : s.isSet .liveHold = false)
    (h : 0 < s.param .liveHold) : s.setsAnew (s.edgeJoined t) .liveHold (s.param .liveHold) := by
  have kept : s.keepsDeadline (s.edgeStamped t) .liveHold := State.edgeStamped_keepsDeadline (by simp)
  have started := State.setsAnew_setDeadline (Nat.pos_iff_ne_zero.1 h) .liveHold (s.edgeStamped t)
  rw [State.edgeJoined, State.startLiveHold_starts (by rw [State.edgeStamped_bus, live])
    (by rw [kept.isSet_eq, idle]), State.edgeStamped_param]
  simpa only [State.setsAnew, State.edgeStamped_timeS] using started

theorem State.edgeJoined_frame : (s.edgeJoined t).mail = s.mail ∧ (s.edgeJoined t).ntu = s.ntu ∧
    (s.edgeJoined t).blu = s.blu ∧ ∀ p, (s.edgeJoined t).param p = s.param p := by
  simp [State.edgeJoined, State.edgeStamped]

theorem State.edgeJoined_sameForStage (k : StageIx) : s.SameForStage k (s.edgeJoined t) :=
  ⟨by rw [State.edgeJoined_bus], fun p => by simp [State.edgeJoined, State.edgeStamped],
    by simp [State.edgeJoined, State.edgeStamped],
    State.edgeJoined_keepsDeadline (by simp) (by simp)⟩

/-- With fewer than five stamps an accepted edge ends there; with five, the oldest and the edge give the
frequency. -/
theorem State.edgeAccepted_cases (five : s.bus.history.length ≤ 5) :
    (s.bus.history.length < 4 ∧ s.edgeAccepted t = s.edgeJoined t) ∨
    ∃ o, 4 ≤ s.bus.history.length ∧ (joinHistory t s.bus.history).head? = some o ∧
      s.edgeAccepted t = (s.edgeJoined t).takeFrequency (frequencyOf (t - o).toNat) := by
  have byHistory : s.edgeAccepted t = match (s.edgeJoined t).bus.history with
    | [a, _, _, _, e] => (s.edgeJoined t).frequencyUpdate a e
    | _ => s.edgeJoined t := rfl
  rw [byHistory, State.edgeJoined_bus]
  match hl : s.bus.history, five with
  | [], _ | [_], _ | [_, _], _ | [_, _, _], _ => exact .inl ⟨by simp, rfl⟩
  | [a, _, _, _], _ | [_, a, _, _, _], _ => exact .inr ⟨a, by simp, rfl, State.frequencyUpdate_eq _ _ _⟩

theorem State.edgeAccepted_few (h : s.bus.history.length < 4) : s.edgeAccepted t = s.edgeJoined t := by
  rcases State.edgeAccepted_cases (s := s) (t := t) (by omega) with ⟨-, e⟩ | ⟨o, four, -⟩
  · exact e
  · omega

theorem State.edgeAccepted_full {o : Time} (four : 4 ≤ s.bus.history.length)
    (five : s.bus.history.length ≤ 5) (ho : (joinHistory t s.bus.history).head? = some o) :
    s.edgeAccepted t = (s.edgeJoined t).takeFrequency (frequencyOf (t - o).toNat) := by
  rcases State.edgeAccepted_cases (t := t) five with ⟨few, -⟩ | ⟨o', -, ho', e⟩
  · omega
  · rwa [Option.some.inj (ho'.symm.trans ho)] at e

/-- What an accepted edge leaves of the history and the conditions of the bus. -/
theorem State.edgeAccepted_conditions (five : s.bus.history.length ≤ 5) :
    (s.edgeAccepted t).bus.history = joinHistory t s.bus.history ∧
    (s.edgeAccepted t).bus.noEdge = false ∧ (s.edgeAccepted t).bus.dark = false ∧
    (s.edgeAccepted t).bus.live = s.bus.live := by
  rcases State.edgeAccepted_cases (t := t) five with ⟨-, h⟩ | ⟨o, -, -, h⟩
  · simp [h, State.edgeJoined_bus]
  · obtain ⟨flags, hbus⟩ := State.takeFrequency_bus (s := s.edgeJoined t)
      (f := frequencyOf (t - o).toNat)
    rw [h, hbus, State.edgeJoined_bus]
    exact ⟨rfl, rfl, rfl, rfl⟩

/-- The frequency update at an edge keeps every deadline but the stage delays; an edge without one keeps these
too. -/
theorem State.edgeAccepted_keepsDeadline {key : DeadlineKey} (five : s.bus.history.length ≤ 5)
    (h : s.bus.history.length < 4 ∨ ∀ k, key ≠ .ufStage k) :
    (s.edgeJoined t).keepsDeadline (s.edgeAccepted t) key := by
  rcases State.edgeAccepted_cases (t := t) five with ⟨-, e⟩ | ⟨o, four, -, e⟩
  · exact State.keepsDeadline_of_scu (by rw [e]) _
  · rw [e]
    exact State.takeFrequency_keepsDeadline (h.resolve_left (by omega))

/-- An accepted edge changes nothing but BMN, the deadlines, the notices, the mail and the re-evaluation
request. -/
theorem State.edgeAccepted_elsewhere : { s.edgeAccepted t with
    bus := s.bus, scu := s.scu, mail := s.mail, ntu := s.ntu, blu := s.blu } = s := by
  obtain ⟨now, port, store, slots, stations, link, gsq, shu, rsq, lines, params, free, pending, -⟩ :=
    State.edgeAccepted_frame t s
  dsimp only
  rw [now, port, store, slots, stations, link, gsq, shu, rsq, lines, params, free, pending]

end EdgeAccepted

/-! ### The flag of a stage, and its test from the state before the edge -/

section Stage

variable {s t : State} {f : Nat} {k : StageIx}

theorem State.stageAfter_raised (h : s.bus.raised[k] = true) :
    s.stageAfter f k = false ↔ s.param (.ufThreshold k) + s.param (.ufHysteresis k) ≤ f := by
  simp [State.stageAfter, -Fin.getElem_fin, h]

theorem State.stageAfter_above (h : s.bus.raised[k] = false) (above : s.param (.ufThreshold k) ≤ f) :
    s.stageAfter f k = false := by
  simp [State.stageAfter, -Fin.getElem_fin, h, above]

theorem State.stageAfter_below (h : s.bus.raised[k] = false) (below : f < s.param (.ufThreshold k)) :
    s.stageAfter f k = true ↔ s.isSet (.ufStage k) = false ∧ s.param (.ufDelay k) = 0 := by
  simp [State.stageAfter, -Fin.getElem_fin, h, below]

end Stage

/-! ### Glitches and crossings (R44, R167) -/

/-- The filter time of the zero-cross line in counts is that of the line, and 0 where there is none. -/
theorem State.lt_zeroCrossFilter {s : State} {n : Nat} :
    n < s.zeroCrossFilter ↔ ∃ l, s.zeroCrossLine = some l ∧ n < 10 * s.lines[l].filter := by
  unfold State.zeroCrossFilter
  cases s.zeroCrossLine with
  | none => simp
  | some l => simp [Config.countsPerUs, Nat.mul_comm]

/-- BMN discards exactly the edges that are glitches. -/
theorem State.isGlitch_iff {s : State} {stamp : Time} (h : s.bus.history.length ≤ 5) :
    s.isGlitch stamp = true ↔ s.glitch stamp := by
  unfold State.isGlitch State.glitch
  rw [Bool.or_eq_true, fourBack_eq h]
  simp only [Option.any_eq_true, decide_eq_true_eq, State.lt_zeroCrossFilter]
  refine or_congr ?_ ?_
  · simp only [exists_and_left]
  · split
    next four => simp only [four, true_and]; rfl
    next few => simp [few]

section Crosses

variable {c : Instr} {stamp : Time} {s s0 : State}

theorem State.crosses_frame (h : s.crosses c stamp s0) : s0.bus = s.bus ∧ s0.mail = s.mail ∧
    s0.ntu = s.ntu ∧ s0.blu = s.blu ∧ ∀ p, s0.param p = s.param p := by
  obtain ⟨-, l, -, ⟨h, -, -, -, rfl⟩ | ⟨after, high, -, -, -, -, -, -, rfl⟩⟩ := h
  · simp [State.param]
  · simp [State.param]

/-- The zero-cross line is found by the functions of the lines alone. -/
theorem State.zeroCrossLine_congr {s t : State}
    (h : ∀ l : LineIx, t.lines[l].function = s.lines[l].function) : t.zeroCrossLine = s.zeroCrossLine := by
  simp only [State.zeroCrossLine, h]

theorem State.zeroCrossLine_function {l : LineIx} (h : s.zeroCrossLine = some l) :
    s.lines[l].function = .zeroCrossIn := by
  simpa using List.find?_some h

/-- A crossing leaves the configuration of every line as it is. -/
theorem State.crosses_lines (h : s.crosses c stamp s0) (l : LineIx) :
    s0.lines[l].function = s.lines[l].function ∧ s0.lines[l].filter = s.lines[l].filter := by
  obtain ⟨-, m, -, ⟨h, -, -, -, rfl⟩ | ⟨after, high, -, -, -, -, -, -, rfl⟩⟩ := h <;>
  · by_cases e : m = l
    · subst e; simp
    · have e' : m.val ≠ l.val := fun h => e (Fin.ext h)
      simp [e']

/-- Whether an edge is a glitch is the same before and after the time that the crossing takes. -/
theorem State.crosses_glitch (h : s.crosses c stamp s0) : s0.glitch stamp ↔ s.glitch stamp := by
  simp only [State.glitch, (State.crosses_frame h).1, (State.crosses_lines h _).2,
    State.zeroCrossLine_congr fun l => (State.crosses_lines h l).1]

/-- The pin that rises with a filter time of 0 hands the edge on at once (R167). -/
theorem State.zeroCrossPin_rises {r : State} {l : LineIx} {high : Bool} (was : r.lines[l].level = false)
    (filter : r.lines[l].filter = 0) (rises : ({ r.lines[l] with pin := high } : Line).level = true) :
    r.zeroCrossPin l high = State.zeroCrossEdge r.timeF { r with
      lines := r.lines.set l { r.lines[l] with pin := high, hold := none, filtered := true } } := by
  have pin : (r.modLine l (fun x => { x with pin := high })).lines[l] = { r.lines[l] with pin := high } := by
    rw [State.modLine_getElem, if_pos rfl]
  unfold State.zeroCrossPin
  rw [if_pos (by rw [pin]; exact rises), if_neg (Bool.eq_false_iff.1 was), if_pos (by rw [pin]; exact filter)]
  simp [State.crossed, State.modLine, State.timeF]

theorem State.pinTakes_zeroCross {r : State} {l : LineIx} (fn : r.lines[l].function = .zeroCrossIn)
    (high : Bool) : r.pinTakes l high = r.zeroCrossPin l high := if_pos fn

theorem State.holdEnds_zeroCross {r : State} {l : LineIx} (fn : r.lines[l].function = .zeroCrossIn)
    (h : FilterHold) : r.holdEnds l h = r.crossed l h.stamp := if_pos fn

theorem State.pinChange_free {r : State} {l : LineIx} (awake : r.port.resetHeld = false)
    (free : r.lines[l].hold = none) (after : Nat) (high : Bool) :
    r.pinChange after l high = (r.runTo (r.now + after)).pinTakes l high := by
  simp only [State.pinChange, awake, State.runPast, free, Bool.false_eq_true, if_false]

theorem State.holdExpired_held {r : State} {l : LineIx} {h : FilterHold} (hold : r.lines[l].hold = some h) :
    r.holdExpired l = (r.runTo h.till).holdEnds l h := by
  simp only [State.holdExpired, hold]

/-- A crossing is an edge that BMN takes. -/
theorem State.exec_crosses (h : s.crosses c stamp s0) : exec c s = .next (s0.zeroCrossEdge stamp) := by
  have lines : ∀ n, (s.runTo n).lines = s.lines := fun n => by simp
  obtain ⟨awake, l, zc, ⟨h, rfl, hold, rfl, rfl⟩ |
    ⟨after, high, rfl, hold, filter, was, rises, rfl, rfl⟩⟩ := h
  · show execZeroCrossFilterExpiry s = _
    rw [execZeroCrossFilterExpiry, State.awake_run awake, zc]
    dsimp only
    rw [State.holdExpired_held hold,
      State.holdEnds_zeroCross (by rw [lines]; exact State.zeroCrossLine_function zc), State.crossed,
      State.modLine, lines]
  · show execZeroCrossPinChange after high s = _
    rw [execZeroCrossPinChange, zc]
    dsimp only
    rw [State.pinChange_free awake hold,
      State.pinTakes_zeroCross (by rw [lines]; exact State.zeroCrossLine_function zc),
      State.zeroCrossPin_rises (by rw [lines]; exact was) (by rw [lines]; exact filter)
        (by rw [lines]; exact rises), lines]

end Crosses

/-! ### An edge as the statement tells of it -/

section Told

variable {s : State} {stamp oldest : Time}

/-- A span that is no glitch is not shorter than the span of 70 000 mHz (R44). -/
theorem State.minSpan_le_of_not_glitch (five : s.bus.history.length ≤ 5) (accepted : ¬ s.glitch stamp)
    (ho : fourBack s.bus.history = some oldest) : Config.minSpan ≤ (stamp - oldest).toNat := by
  rw [← State.isGlitch_iff five, State.isGlitch, ho] at accepted
  by_contra short
  exact accepted (by simp [-BitVec.toNat_sub, Nat.lt_of_not_le short])

/-- What an update at an edge makes of one stage and its delay, told from the state before the edge (R47 to
R49). -/
theorem State.edge_stage (k : StageIx) {f : Nat} {t : State} (flag : t.bus.raised[k] = s.stageAfter f k)
    (delayed : s.StageDelayed f k t) :
    (s.bus.raised[k] = true → s.keepsDeadline t (.ufStage k) ∧
      (t.bus.raised[k] = false ↔ s.param (.ufThreshold k) + s.param (.ufHysteresis k) ≤ f)) ∧
    (s.bus.raised[k] = false → s.param (.ufThreshold k) ≤ f →
      t.bus.raised[k] = false ∧ t.isSet (.ufStage k) = false) ∧
    (s.bus.raised[k] = false → f < s.param (.ufThreshold k) →
      (t.bus.raised[k] = true ↔ s.isSet (.ufStage k) = false ∧ s.param (.ufDelay k) = 0) ∧
      ((s.isSet (.ufStage k) = true ∨ s.param (.ufDelay k) = 0) → s.keepsDeadline t (.ufStage k)) ∧
      (s.isSet (.ufStage k) = false → s.param (.ufDelay k) ≠ 0 →
        s.setsAnew t (.ufStage k) (s.param (.ufDelay k)))) := by
  rw [flag]
  exact ⟨fun raised => ⟨delayed.raised raised, State.stageAfter_raised raised⟩,
    fun clear above => ⟨State.stageAfter_above clear above, delayed.above clear above⟩,
    fun clear below => ⟨State.stageAfter_below clear below, delayed.kept clear below,
      delayed.started clear below⟩⟩

end Told

/-- Settles O55: an edge that is no glitch joins the history, and with five stamps a frequency update follows,
which tests each stage once. -/
theorem edgesGiveTheFrequency : Obligations.EdgesGiveTheFrequency := by
  intro c stamp s s0 crosses five darkTime liveHold
  obtain ⟨hbus, hmail, hntu, hblu, hparam⟩ := State.crosses_frame crosses
  rw [State.exec_crosses crosses, ← State.crosses_glitch crosses]
  simp only [← hbus, ← hmail, ← hblu, ← hparam] at five darkTime liveHold ⊢
  refine ⟨fun glitch => ?glitch, fun accepted => ⟨s0.edgeAccepted stamp, ?edge, ?_⟩⟩
  case glitch => rw [State.zeroCrossEdge, if_pos ((State.isGlitch_iff five).2 glitch)]
  case edge => rw [State.zeroCrossEdge, if_neg fun h => accepted ((State.isGlitch_iff five).1 h)]
  obtain ⟨history, noEdge, dark, live⟩ := State.edgeAccepted_conditions (t := stamp) five
  have keeps {key : DeadlineKey} := State.edgeAccepted_keepsDeadline (s := s0) (t := stamp) (key := key) five
  have darkTimer := (State.edgeJoined_darkTimer darkTime).keeps (keeps (.inr (by simp)))
  refine ⟨history.trans (joinHistory_eq _ _), noEdge, dark, live, ?darkSet, ?darkAlone, darkTimer.1,
    ?holdKept, ?holdStarted, ?others, ?few, ?full, State.edgeAccepted_elsewhere⟩
  case darkSet => exact (darkTimer.2 _ rfl).2 rfl
  case darkAlone => exact fun d hd key => congrArg Deadline.due ((darkTimer.2 d key).1 hd)
  case holdKept => exact fun h => (State.edgeJoined_liveHold_kept h).trans (keeps (.inr (by simp)))
  case holdStarted =>
    exact fun dead idle =>
      (State.edgeJoined_liveHold_started dead idle liveHold).keeps (keeps (.inr (by simp)))
  case others =>
    exact fun key notDark notLive h => (State.edgeJoined_keepsDeadline notDark notLive).trans (keeps h)
  case few =>
    intro few
    obtain ⟨mail, ntu, blu, -⟩ := State.edgeJoined_frame (s := s0) (t := stamp)
    rw [State.edgeAccepted_few few, State.edgeJoined_bus]
    exact ⟨rfl, rfl, rfl, mail, ntu.trans hntu, blu⟩
  case full =>
    intro oldest four ho
    have back : fourBack s0.bus.history = some oldest := by
      rw [← joinHistory_head? four five, ← history, ho]
    obtain ⟨lower, upper⟩ := frequencyOf_bounds (State.minSpan_le_of_not_glitch five accepted back)
    obtain ⟨mail, ntu, blu, param⟩ := State.edgeJoined_frame (s := s0) (t := stamp)
    rw [State.edgeAccepted_full four five (history ▸ ho)]
    obtain ⟨flags, bus⟩ := State.takeFrequency_bus (s := s0.edgeJoined stamp)
      (f := frequencyOf (stamp - oldest).toNat)
    have frequency := congrArg BusMonitor.frequency bus
    have same := State.edgeJoined_sameForStage (s := s0) (t := stamp)
    simp only [frequency]
    refine ⟨rfl, lower, upper, by rw [bus], ?mail, ?blu, ?ntu, fun k => ?stage⟩
    case mail =>
      rw [State.takeFrequency_mail, mail]
      simp only [(same _).raised]
      rfl
    case blu =>
      rw [State.takeFrequency_blu, blu]
      simp only [(same _).raised]
      rfl
    case ntu =>
      rw [State.takeFrequency_ntu (ntu.trans hntu) fun p => (param p).trans (hparam p)]
      simp only [(same _).raised]
      rfl
    case stage =>
      exact State.edge_stage k (State.takeFrequency_raised.trans (same k).stageAfter_eq)
        ((same k).stageDelayed State.takeFrequency_delayed)

end Sys2Proof.Machine

/-! The pro-rata cut of a class and the order of its remainder (R70). -/

namespace Sys2Proof.Machine

/-! ### Sorting -/

theorem insertBy_eq_orderedInsert {α : Type} (before : α → α → Bool) (a : α) (l : List α) :
    insertBy before a l = l.orderedInsert (before · ·) a := by
  induction l with
  | nil => rfl
  | cons b l ih => simp only [insertBy, List.orderedInsert_cons, ih]

/-- The model's sort is the library's insertion sort. -/
theorem sortBy_eq_insertionSort {α : Type} (before : α → α → Bool) (l : List α) :
    sortBy before l = l.insertionSort (before · ·) := by
  rw [sortBy, List.foldl_reverse]
  exact congrArg (l.foldr · []) (funext₂ (insertBy_eq_orderedInsert before))

theorem sortBy_perm {α : Type} (before : α → α → Bool) (l : List α) : (sortBy before l).Perm l := by
  rw [sortBy_eq_insertionSort]
  exact List.perm_insertionSort _ l

section Sorted

variable {α : Type} {before : α → α → Bool} (asymm : ∀ a b, before a b = true → before b a = false)
  (trans : ∀ a b c, before a b = true → before b c = true → before a c = true)

include asymm trans in
theorem insertBy_pairwise (a : α) {l : List α} (h : l.Pairwise fun a b => before b a = false) :
    (insertBy before a l).Pairwise fun a b => before b a = false := by
  induction h with
  | nil => exact List.pairwise_singleton _ a
  | @cons b l hb hl ih =>
    rw [insertBy]
    split
    next first =>
      refine .cons (fun c hc => ?_) (.cons hb hl)
      obtain rfl | hc := List.mem_cons.1 hc
      · exact asymm _ _ first
      · exact Bool.eq_false_iff.2 fun hca => Bool.eq_false_iff.1 (hb c hc) (trans _ _ _ hca first)
    next notFirst =>
      refine .cons (fun c hc => ?_) ih
      rw [insertBy_eq_orderedInsert, List.mem_orderedInsert] at hc
      obtain rfl | hc := hc
      · exact Bool.eq_false_iff.2 notFirst
      · exact hb c hc

include asymm trans in
/-- Under a strict order no member of the sorted list has to come before an earlier one. -/
theorem sortBy_pairwise (l : List α) : (sortBy before l).Pairwise fun a b => before b a = false := by
  rw [sortBy, List.foldl_reverse]
  induction l with
  | nil => exact .nil
  | cons a l ih => exact insertBy_pairwise asymm trans a ih

end Sorted

/-! ### The order of the remainder -/

theorem remainderBefore_iff {a b : SlotIx × Pv} : remainderBefore a b = true ↔
    b.2.pav < a.2.pav ∨ (a.2.pav = b.2.pav ∧ a.1 < b.1) := by
  simp [remainderBefore]

/-- The order is strict, so the sorted plants stand in it. -/
theorem sortBy_remainderBefore_pairwise (ps : List (SlotIx × Pv)) :
    (sortBy remainderBefore ps).Pairwise fun a b => remainderBefore b a = false := by
  refine sortBy_pairwise (fun a b => ?asymm) (fun a b c => ?trans) ps
  case asymm =>
    simp only [← Bool.not_eq_true, remainderBefore_iff, Fin.lt_def]
    omega
  case trans =>
    simp only [remainderBefore_iff, Fin.lt_def]
    omega

/-! ### How much the remainder is

Each share loses less than 1 kW to rounding, and the share of a plant without availability loses nothing. -/

/-- Whether a plant has availability to cut. -/
def hasPav (p : SlotIx × Pv) : Bool := decide (0 < p.2.pav)

theorem mul_sum_roundedCut_le (x t : Nat) (ps : List (SlotIx × Pv)) :
    t * (ps.map (roundedCut x t)).sum ≤ x * pavSum ps := by
  rw [pavSum, ← List.sum_map_mul_left, ← List.sum_map_mul_left]
  exact List.sum_le_sum fun p _ => Nat.mul_div_le (x * p.2.pav) t

theorem mul_pavSum_le {t : Nat} (ht : 0 < t) (x : Nat) (ps : List (SlotIx × Pv)) :
    x * pavSum ps ≤ t * ((ps.map (roundedCut x t)).sum + ps.countP hasPav) := by
  induction ps with
  | nil => simp [pavSum]
  | cons p ps ih =>
    have share : x * p.2.pav ≤ t * (roundedCut x t p + if hasPav p then 1 else 0) := by
      unfold hasPav
      obtain none | some := Nat.eq_zero_or_pos p.2.pav
      · simp [none]
      · simpa [some, roundedCut] using (Nat.lt_mul_div_succ (x * p.2.pav) ht).le
    have split : pavSum (p :: ps) = p.2.pav + pavSum ps := by simp [pavSum]
    rw [split, List.map_cons, List.sum_cons, List.countP_cons]
    linarith only [share, ih]

/-- The remainder r of the cut of X (R70). -/
def cutRemainder (x : Nat) (ps : List (SlotIx × Pv)) : Nat :=
  x - (ps.map (roundedCut x (pavSum ps))).sum

section Class

variable {ps : List (SlotIx × Pv)} {x : Nat}

/-- The shares rounded down and the remainder total X. -/
theorem sum_roundedCut_add_cutRemainder (hx : x < pavSum ps) :
    (ps.map (roundedCut x (pavSum ps))).sum + cutRemainder x ps = x := by
  refine Nat.add_sub_cancel' (Nat.le_of_mul_le_mul_left ?_ (Nat.zero_lt_of_lt hx))
  exact (mul_sum_roundedCut_le x _ ps).trans_eq (Nat.mul_comm _ _)

/-- There is a plant with availability for each kW of the remainder. -/
theorem cutRemainder_le (hx : x < pavSum ps) : cutRemainder x ps ≤ ps.countP hasPav := by
  have pos := Nat.zero_lt_of_lt hx
  refine Nat.sub_le_iff_le_add'.2 (Nat.le_of_mul_le_mul_left ?_ pos)
  exact (Nat.mul_comm _ _).trans_le (mul_pavSum_le pos x ps)

theorem roundedCut_le {p : SlotIx × Pv} (hx : x < pavSum ps) : roundedCut x (pavSum ps) p ≤ p.2.pav :=
  Nat.div_le_of_le_mul (Nat.mul_le_mul_right _ hx.le)

/-- A plant with availability can be cut by one kW more than its share rounded down. -/
theorem roundedCut_lt {p : SlotIx × Pv} (hx : x < pavSum ps) (hp : hasPav p = true) :
    roundedCut x (pavSum ps) p < p.2.pav :=
  Nat.div_lt_of_lt_mul (Nat.mul_lt_mul_of_pos_right hx (of_decide_eq_true hp))

end Class

/-! ### Who gets the remainder -/

/-- Where nothing with a property comes after something without it, the first members, as many as have it or
fewer, have it. -/
theorem of_mem_take_of_pairwise {α : Type} {P : α → Bool} {l : List α}
    (h : l.Pairwise fun a b => P b = true → P a = true) {r : Nat} (hr : r ≤ l.countP P) {a : α}
    (ha : a ∈ l.take r) : P a = true := by
  induction h generalizing r with
  | nil => simp at ha
  | @cons b l hb _ ih =>
    cases r with
    | zero => simp at ha
    | succ r =>
      have headHas : P b = true := by
        obtain ⟨c, hc, has⟩ := List.countP_pos_iff.1 (Nat.lt_of_lt_of_le r.succ_pos hr)
        obtain rfl | hc := List.mem_cons.1 hc
        · exact has
        · exact hb c hc has
      rw [List.countP_cons_of_pos headHas] at hr
      obtain rfl | ha := List.mem_cons.1 ha
      · exact headHas
      · exact ih (Nat.le_of_succ_le_succ hr) ha

/-- Where the first `r` plants have room for one kW more, they are the ones that get it. -/
theorem handOut_eq {cut : SlotIx × Pv → Nat} {r : Nat} {l : List (SlotIx × Pv)}
    (room : ∀ p ∈ l.take r, cut p < p.2.pav) :
    handOut cut r l = (l.take r).map (fun p => (p.1, p.2.pav - (cut p + 1))) ++
      (l.drop r).map (fun p => (p.1, p.2.pav - cut p)) := by
  induction l generalizing r with
  | nil => simp [handOut]
  | cons p l ih =>
    cases r with
    | zero => simpa [handOut] using ih (r := 0) (by simp)
    | succ r =>
      rw [handOut, if_pos ⟨r.succ_pos, room p (by simp)⟩, Nat.add_sub_cancel,
        ih fun q hq => room q (List.mem_cons_of_mem p hq)]
      rfl

/-- The plants that get a kW of the remainder (R70). -/
def remainderTakers (x : Nat) (ps : List (SlotIx × Pv)) : List (SlotIx × Pv) :=
  (sortBy remainderBefore ps).take (cutRemainder x ps)

/-- The cut of a plant with its kW of the remainder, if it gets one (R70). -/
def proRataCut (x : Nat) (ps : List (SlotIx × Pv)) (p : SlotIx × Pv) : Nat :=
  roundedCut x (pavSum ps) p + if p ∈ remainderTakers x ps then 1 else 0

section Takers

variable {ps : List (SlotIx × Pv)} {x : Nat} {p q : SlotIx × Pv}

theorem proRataCut_of_mem (h : p ∈ remainderTakers x ps) :
    proRataCut x ps p = roundedCut x (pavSum ps) p + 1 := by
  rw [proRataCut, if_pos h]

theorem proRataCut_of_not_mem (h : p ∉ remainderTakers x ps) :
    proRataCut x ps p = roundedCut x (pavSum ps) p := by
  rw [proRataCut, if_neg h, Nat.add_zero]

theorem mem_remainderTakers_iff :
    p ∈ remainderTakers x ps ↔ proRataCut x ps p = roundedCut x (pavSum ps) p + 1 := by
  simp [proRataCut]

/-- The remainder goes to plants with availability. -/
theorem hasPav_of_mem_remainderTakers (hx : x < pavSum ps) (h : p ∈ remainderTakers x ps) :
    hasPav p = true := by
  have descending : (sortBy remainderBefore ps).Pairwise
      fun a b => hasPav b = true → hasPav a = true := by
    refine (sortBy_remainderBefore_pairwise ps).imp fun {a b} notBefore => ?_
    rw [← Bool.not_eq_true, remainderBefore_iff] at notBefore
    simp only [hasPav, decide_eq_true_eq]
    omega
  refine of_mem_take_of_pairwise descending ?_ h
  rw [(sortBy_perm remainderBefore ps).countP_eq]
  exact cutRemainder_le hx

theorem proRataCut_le (hx : x < pavSum ps) : proRataCut x ps p ≤ p.2.pav := by
  by_cases h : p ∈ remainderTakers x ps
  · rw [proRataCut_of_mem h]
    exact roundedCut_lt hx (hasPav_of_mem_remainderTakers hx h)
  · rw [proRataCut_of_not_mem h]
    exact roundedCut_le hx

/-- A plant before one that gets a kW of the remainder gets one too. -/
theorem mem_remainderTakers_of_before (hp : p ∈ ps) (before : remainderBefore p q = true)
    (hq : q ∈ remainderTakers x ps) : p ∈ remainderTakers x ps := by
  by_contra passed
  have sorted := sortBy_remainderBefore_pairwise ps
  rw [← List.take_append_drop (cutRemainder x ps) (sortBy remainderBefore ps)] at sorted
  have later : p ∈ (sortBy remainderBefore ps).drop (cutRemainder x ps) := by
    have mem := (sortBy_perm remainderBefore ps).mem_iff.2 hp
    rw [← List.take_append_drop (cutRemainder x ps) (sortBy remainderBefore ps)] at mem
    exact (List.mem_append.1 mem).resolve_left passed
  exact Bool.eq_false_iff.1 ((List.pairwise_append.1 sorted).2.2 q hq p later) before

theorem length_remainderTakers (hx : x < pavSum ps) :
    (remainderTakers x ps).length = cutRemainder x ps := by
  refine List.length_take_of_le ?_
  rw [(sortBy_perm remainderBefore ps).length_eq]
  exact (cutRemainder_le hx).trans List.countP_le_length

/-- The plants that get a kW are plants of the class, and none gets two. -/
theorem filter_mem_remainderTakers_perm (nodup : ps.Nodup) :
    (ps.filter (· ∈ remainderTakers x ps)).Perm (remainderTakers x ps) := by
  have perm := sortBy_perm remainderBefore ps
  have first : (remainderTakers x ps).Sublist (sortBy remainderBefore ps) := List.take_sublist _ _
  refine (List.perm_ext_iff_of_nodup (nodup.filter _) (first.nodup (perm.nodup_iff.2 nodup))).2 fun p => ?_
  simpa using fun h => perm.mem_iff.1 (first.subset h)

/-- The cuts total X. -/
theorem sum_proRataCut (nodup : ps.Nodup) (hx : x < pavSum ps) :
    (ps.map (proRataCut x ps)).sum = x := by
  have extra : (ps.map fun p => if p ∈ remainderTakers x ps then 1 else 0).sum = cutRemainder x ps := by
    rw [List.sum_map_ite, (filter_mem_remainderTakers_perm nodup).map _ |>.sum_eq]
    simpa using length_remainderTakers hx
  unfold proRataCut
  rw [List.sum_map_add, extra, sum_roundedCut_add_cutRemainder hx]

/-- The targets are the availabilities less the cuts. -/
theorem proRata_eq (nodup : ps.Nodup) (hx : x < pavSum ps) :
    proRata x ps = (sortBy remainderBefore ps).map fun p => (p.1, p.2.pav - proRataCut x ps p) := by
  have sorted := (sortBy_perm remainderBefore ps).nodup_iff.2 nodup
  rw [← List.take_append_drop (cutRemainder x ps) (sortBy remainderBefore ps)] at sorted
  have apart := (List.nodup_append.1 sorted).2.2
  have room : ∀ p ∈ remainderTakers x ps, roundedCut x (pavSum ps) p < p.2.pav :=
    fun p hp => roundedCut_lt hx (hasPav_of_mem_remainderTakers hx hp)
  conv_rhs => rw [← List.take_append_drop (cutRemainder x ps) (sortBy remainderBefore ps), List.map_append]
  refine (handOut_eq room).trans (congrArg₂ _ ?takers ?others)
  case takers => exact List.map_congr_left fun p hp => by rw [proRataCut_of_mem hp]
  case others =>
    exact List.map_congr_left fun p hp => by rw [proRataCut_of_not_mem fun taker => apart p taker p hp rfl]

end Takers

/-! ### The targets by slot -/

theorem targetOf_cons (t : SlotIx × Nat) (ts : List (SlotIx × Nat)) (i : SlotIx) :
    targetOf (t :: ts) i = if t.1 = i then t.2 else targetOf ts i := by
  by_cases h : t.1 = i <;> simp [targetOf, h]

/-- Among plants in slots of their own, the target of a slot is its plant's. -/
theorem targetOf_map {f : SlotIx × Pv → Nat} {l : List (SlotIx × Pv)} (nodup : (l.map Prod.fst).Nodup)
    {p : SlotIx × Pv} (hp : p ∈ l) : targetOf (l.map fun p => (p.1, f p)) p.1 = f p := by
  induction l with
  | nil => simp at hp
  | cons q l ih =>
    obtain ⟨fresh, nodup⟩ := List.nodup_cons.1 nodup
    rw [List.map_cons, targetOf_cons]
    obtain rfl | hp := List.mem_cons.1 hp
    · exact if_pos rfl
    · rw [if_neg fun same => fresh (List.mem_map.2 ⟨p, hp, same.symm⟩), ih nodup hp]

theorem targetOf_proRata {ps : List (SlotIx × Pv)} {x : Nat} {p : SlotIx × Pv}
    (nodup : (ps.map Prod.fst).Nodup) (hx : x < pavSum ps) (hp : p ∈ ps) :
    targetOf (proRata x ps) p.1 = p.2.pav - proRataCut x ps p := by
  have perm := sortBy_perm remainderBefore ps
  rw [proRata_eq nodup.of_map hx]
  exact targetOf_map (f := fun p => p.2.pav - proRataCut x ps p)
    ((perm.map Prod.fst).nodup_iff.2 nodup) (perm.mem_iff.2 hp)

/-- Settles O42: a cut is the share rounded down with the kW of a plant that gets one, and those plants come
first in the order of the remainder. -/
theorem proRataCutPlacesTheRemainder : Obligations.ProRataCutPlacesTheRemainder := by
  intro ps x cut nodup hx hcut
  have target : ∀ p ∈ ps, targetOf (proRata x ps) p.1 = p.2.pav - proRataCut x ps p :=
    fun p hp => targetOf_proRata nodup hx hp
  have cut_eq : ∀ p ∈ ps, cut p = proRataCut x ps p :=
    fun p hp => by rw [hcut, target p hp, Nat.sub_sub_self (proRataCut_le hx)]
  refine ⟨fun p hp => ?plant, ?total, fun p hp q hq before extra => ?order⟩
  case plant =>
    rw [cut_eq p hp]
    refine ⟨proRataCut_le hx, target p hp, ?_⟩
    by_cases h : p ∈ remainderTakers x ps
    · exact .inr (proRataCut_of_mem h)
    · exact .inl (proRataCut_of_not_mem h)
  case total =>
    rw [List.map_congr_left cut_eq, sum_proRataCut nodup.of_map hx]
  case order =>
    rw [cut_eq q hq] at extra
    rw [cut_eq p hp]
    exact proRataCut_of_mem
      (mem_remainderTakers_of_before hp (remainderBefore_iff.2 before) (mem_remainderTakers_iff.2 extra))

end Sys2Proof.Machine

/-! PLAN_SET and the dark settle expiry without auto-run (R127, R131). -/

namespace Sys2Proof.Machine

/-! ### Whether the plan is busy (R126) -/

theorem State.planBusy_iff {s : State} :
    s.planBusy = true ↔ s.rsq.state = .running ∨ s.rsq.state = .paused := by
  simp [State.planBusy]

/-! ### PLAN_SET (R127) -/

/-- A PLAN_SET that is taken does what its owner does. -/
theorem exec_planSet {length autoRun : Nat} {s : State} (h : s.serves (.planSet length autoRun)) :
    exec (.planSet length autoRun) s = .next (s.planSetRequest length autoRun) :=
  congrArg Host.Outcome.next (State.serve_serves h)

/-- A length above 32 is out of range, whatever the state of the plan. -/
theorem State.planSetRequest_tooLong {length : Nat} (autoRun : Nat) (s : State) (long : 32 < length) :
    s.planSetRequest length autoRun = s.refuse (.planSet length autoRun) .outOfRange :=
  if_pos (.inl long)

section InRange

variable {length autoRun : Nat} {s : State}

/-- A busy plan keeps its length. -/
theorem State.planSetRequest_busy (short : length ≤ 32) (flag : autoRun ≤ 1) (busy : s.planBusy = true)
    (other : length ≠ s.rsq.length) :
    s.planSetRequest length autoRun = s.refuse (.planSet length autoRun) .planRunning :=
  (if_neg (by omega)).trans (if_pos ⟨busy, other⟩)

/-- Both values are taken where the plan is not busy or the length is the present one. -/
theorem State.planSetRequest_taken (short : length ≤ 32) (flag : autoRun ≤ 1)
    (free : s.planBusy = true → length = s.rsq.length) :
    s.planSetRequest length autoRun =
      (s.modRsq fun r => { r with length := length, autoRun := autoRun == 1 }).respond
        (.planSet length autoRun) .ok [] :=
  (if_neg (by omega)).trans (if_neg fun ⟨busy, other⟩ => other (free busy))

end InRange

/-! ### The dark settle expiry (R131) -/

/-- A dark settle expiry that is taken does what its owner does. -/
theorem exec_darkSettleExpiry {s s0 : State} (h : s.expires .darkSettle s0) :
    exec .darkSettleExpiry s = .next s0.darkSettleExpired :=
  congrArg Host.Outcome.next (State.onExpiry_expires h)

/-- Without auto-run the expiry starts no plan and raises no notice. -/
theorem State.darkSettleExpired_of_autoRun_false {s : State} (off : s.rsq.autoRun = false) :
    s.darkSettleExpired = s :=
  if_neg fun ⟨on, _⟩ => Bool.false_ne_true (off.symm.trans on)

/-- Settles O34: the request is taken and its checks are made in their order; the expiry reads the flag of its
own moment. -/
theorem planSetTakesBothValues : Obligations.PlanSetTakesBothValues := by
  refine ⟨?request, ?expiry⟩
  case request =>
    rintro length autoRun s c rfl flag hserves
    rw [exec_planSet hserves]
    refine ⟨fun long => ?tooLong, fun short busy other => ?busy, fun short free => ?taken⟩
    case tooLong => rw [State.planSetRequest_tooLong autoRun s long]
    case busy => rw [State.planSetRequest_busy short flag (State.planBusy_iff.2 busy) other]
    case taken =>
      have present : s.planBusy = true → length = s.rsq.length := fun busy =>
        free.resolve_left fun ⟨notRunning, notPaused⟩ =>
          (State.planBusy_iff.1 busy).elim notRunning notPaused
      rw [State.planSetRequest_taken short flag present]
      rfl
  case expiry =>
    intro s s0 expires off
    rw [exec_darkSettleExpiry expires, State.darkSettleExpired_of_autoRun_false off]

end Sys2Proof.Machine

/-! Raises of notices, the pending set after a reset, and READ_NOTICES (R179 to R181). -/

namespace Sys2Proof.Machine

/-! ### Raises (R179) -/

/-- A raise leaves every other kind as it was. -/
theorem State.raise_held_other {j k : NoticeIx} (ne : j ≠ k) (detail : Option Nat) (s : State) :
    (s.raise k detail).ntu.held[j] = s.ntu.held[j] := by
  have apart : k.val ≠ j.val := fun same => ne (Fin.ext same.symm)
  simpa [(State.raise_spec k detail s).1] using Vector.getElem_set_ne k.isLt j.isLt apart

/-- A raise changes nothing outside NTU. -/
theorem State.raise_elsewhere (k : NoticeIx) (detail : Option Nat) (s : State) :
    { s.raise k detail with ntu := s.ntu } = s := rfl

/-! ### The pending set after a reset (R179) -/

/-- After a reset RESTARTED is pending, SETTINGS_LOST with it where the image was bad, and no other kind. -/
theorem resetNotices_getElem (lost : Bool) (k : NoticeIx) : (resetNotices lost)[k] =
    if k = NoticeKind.restarted ∨ (k = NoticeKind.settingsLost ∧ lost = true) then
      some { detail := none, count := 1 } else none := by
  by_cases restarted : k = NoticeKind.restarted
  · subst restarted
    simp [resetNotices]
  · by_cases settingsLost : k = NoticeKind.settingsLost
    · subst settingsLost
      cases lost <;> rfl
    · have apart : NoticeKind.restarted.val ≠ k.val := fun same => restarted (Fin.ext same.symm)
      have apart' : NoticeKind.settingsLost.val ≠ k.val := fun same => settingsLost (Fin.ext same.symm)
      simp [resetNotices, restarted, settingsLost, Vector.getElem_set_ne, apart, apart']

/-- What a reset leaves pending turns on whether the store held a good image. -/
theorem State.resetWith_held (warm : Bool) (s : State) :
    (s.resetWith warm).ntu.held = resetNotices s.store.load.isNone := rfl

/-- A reset judges NOTIFY. -/
theorem State.resetWith_agrees (warm : Bool) (s : State) : (s.resetWith warm).notifyAgrees :=
  State.judge_agrees _

/-- Each of the three commands that reset the part resets it from the store as it stands. -/
theorem exec_resets {c : Instr} {s : State}
    (h : c = .powerOnReset ∨ (c = .resetInputReleased ∧ s.port.resetHeld = true) ∨
      (c = .restart ∧ s.serves .restart)) :
    ∃ (warm : Bool) (u : State), exec c s = .next (u.resetWith warm) ∧ u.store = s.store := by
  obtain rfl | ⟨rfl, held⟩ | ⟨rfl, taken⟩ := h
  · exact ⟨false, s, rfl, rfl⟩
  · exact ⟨true, s.holdReset false, congrArg Host.Outcome.next (if_pos held), rfl⟩
  · exact ⟨true, s, congrArg Host.Outcome.next (State.serve_serves taken), rfl⟩

/-- Settles O22: a raise writes the one entry of its kind, and each reset writes the whole pending set. -/
theorem noticesCountAndReplaceDetail : Obligations.NoticesCountAndReplaceDetail := by
  refine ⟨fun k detail s => ?raise, fun c s h => ?reset⟩
  case raise =>
    obtain ⟨-, levels, agrees⟩ := State.raise_spec k detail s
    exact ⟨State.raise_noticed k detail s, fun j ne => State.raise_held_other ne detail s, levels, agrees,
      State.raise_elsewhere k detail s⟩
  case reset =>
    obtain ⟨warm, u, runs, store⟩ := exec_resets h
    refine ⟨u.resetWith warm, runs, State.resetWith_agrees warm u, fun k => ?_⟩
    rw [State.resetWith_held, store, resetNotices_getElem]
    simp only [Option.isNone_iff_eq_none]
    rfl

/-! ### READ_NOTICES (R181) -/

/-- A READ_NOTICES that is taken does what its owner does. -/
theorem exec_readNotices {s : State} (h : s.serves .readNotices) :
    exec .readNotices s = .next s.readNoticesRequest :=
  congrArg Host.Outcome.next (State.serve_serves h)

/-- An empty pending set drives NOTIFY at no threshold. -/
theorem NoticeUnit.drives_of_empty {u : NoticeUnit} (empty : u.held = Vector.replicate 22 none)
    (threshold : Nat) : u.drives threshold = false := by
  simp [NoticeUnit.drives, empty]

/-- With nothing pending NOTIFY is judged released, whatever the levels and the threshold (R180). -/
theorem State.judge_of_empty {s : State} (empty : s.ntu.held = Vector.replicate 22 none) :
    s.judge = { s with ntu := { s.ntu with notifyLow := false } } := by
  rw [State.judge, NoticeUnit.drives_of_empty empty]

/-- The owner answers with the pending set as it stood, empties it and releases NOTIFY. -/
theorem State.readNoticesRequest_eq (s : State) : s.readNoticesRequest =
    { s with ntu := { s.ntu with held := Vector.replicate 22 none, notifyLow := false } }.respond
      .readNotices .ok (noticeBytes s.ntu.pending) :=
  congrArg (State.respond .readNotices .ok (noticeBytes s.ntu.pending)) (State.judge_of_empty rfl)

/-- The bytes of one entry: the code of the kind, the detail, and the count (R181, R186). -/
def noticeEntry (p : NoticeIx × Notice) : List Byte :=
  u8 (p.1.val + 1) ++ u8 (p.2.detail.getD 0xFF) ++ u8 p.2.count

/-- There are as many pending notices as kinds with an entry. -/
theorem NoticeUnit.length_pending (u : NoticeUnit) :
    u.pending.length = ((List.finRange 22).filter (fun k : NoticeIx => u.held[k].isSome)).length := by
  simp [NoticeUnit.pending, allNotices, List.length_filterMap_eq_countP, List.countP_eq_length_filter]

/-- The body of the answer is the count of the pending kinds and their entries. -/
theorem noticeBytes_pending (u : NoticeUnit) : noticeBytes u.pending =
    u8 ((List.finRange 22).filter (fun k : NoticeIx => u.held[k].isSome)).length ++
      u.pending.flatMap noticeEntry :=
  congrArg (fun n => u8 n ++ u.pending.flatMap noticeEntry) u.length_pending

/-- Writing out the pending notices goes through the kinds in the order of code and passes over those that are
not pending. -/
theorem NoticeUnit.flatMap_pending (u : NoticeUnit) (f : NoticeIx × Notice → List Byte) :
    u.pending.flatMap f =
      (List.finRange 22).flatMap (fun k : NoticeIx => u.held[k].elim [] (fun n => f (k, n))) := by
  rw [NoticeUnit.pending, List.filterMap_eq_flatMap_toList, List.flatMap_assoc]
  refine List.flatMap_congr fun k _ => ?_
  cases u.held[k] <;> simp

/-- Settles O23: the answer is made of the pending set as it stood, and with the set emptied NOTIFY is released
whatever the threshold is. -/
theorem readNoticesEmptiesThePendingSet : Obligations.ReadNoticesEmptiesThePendingSet := by
  intro s hserves _
  refine ⟨s.ntu.pending.flatMap noticeEntry, ?entries, ?answer⟩
  case entries =>
    rw [NoticeUnit.flatMap_pending]
    refine List.flatMap_congr fun k _ => ?_
    cases s.ntu.held[k] <;> rfl
  case answer =>
    rw [exec_readNotices hserves, State.readNoticesRequest_eq, noticeBytes_pending]

end Sys2Proof.Machine
